-- ==== Sys2Proof/Word.lean ====
section
/-! DEFINITION. The two widths of the machine: bytes and 16-bit words (R8, R9). -/

namespace Sys2Proof

/-- u8: a register, a memory byte, an immediate (R9). -/
abbrev Byte := BitVec 8

/-- u16: a register pair, an index register, SP, PC, a memory or port address (R9). -/
abbrev Word := BitVec 16

end Sys2Proof
end

