-- ==== Sys2Proof/Machine/Bits.lean ====
section
/-! DEFINITION. Byte order, sign extension and the other bit-field helpers of R8 and R9. -/

namespace Sys2Proof

/-- `hi8(w) = w[15:8]` (R8). -/
def hi8 (w : Word) : Byte := w.extractLsb' 8 8

/-- `lo8(w) = w[7:0]` (R8). -/
def lo8 (w : Word) : Byte := w.extractLsb' 0 8

/-- `{h, l}`, the word with `h` in bits 15:8 (R8). -/
def join (h l : Byte) : Word := h ++ l

/-- `sext_16(d)` (R9). -/
def sext16 (d : Byte) : Word := d.signExtend 16

/-- `zext_16(b)` (R9). -/
def zext16 (b : Byte) : Word := b.setWidth 16

/-- `v[3:0]`. -/
def lowNibble (v : Byte) : BitVec 4 := v.extractLsb' 0 4

/-- `v[7:4]`. -/
def highNibble (v : Byte) : BitVec 4 := v.extractLsb' 4 4

/-- `{h, l}` of two nibbles. -/
def joinNibbles (h l : BitVec 4) : Byte := h ++ l

/-- `{v[6:0], b}`: `v` moved one place left with `b` in bit 0. -/
def shiftInLow (v : Byte) (b : Bool) : Byte := (v.extractLsb' 0 7).concat b

/-- `{b, v[7:1]}`: `v` moved one place right with `b` in bit 7. -/
def shiftInHigh (b : Bool) (v : Byte) : Byte := (v.extractLsb' 1 7).cons b

/-- `1 << b` as a byte. -/
def bitMask (b : Nat) : Byte := 1#8 <<< b

/-- The value of a truth value in a sum. -/
def bit (b : Bool) : Nat := if b then 1 else 0

/-- `parity(v)`: true when the byte has an even number of 1 bits (R14). -/
def parity (v : Byte) : Bool :=
  !(v.getLsbD 0 ^^ v.getLsbD 1 ^^ v.getLsbD 2 ^^ v.getLsbD 3 ^^ v.getLsbD 4 ^^ v.getLsbD 5 ^^ v.getLsbD 6 ^^ v.getLsbD 7)

/-- One M1 cycle's effect on R: `{R[7], (R[6:0] + 1) mod 128}` (R29, R123). -/
def refresh (r : Byte) : Byte := (r &&& 0x80#8) ||| ((r + 1#8) &&& 0x7F#8)

end Sys2Proof
end

