-- ==== Sys2Proof/Syntax.lean ====
section
/-! DEFINITION. The instructions: one constructor per row of spec/opcode_table.json, in the table's order. -/

namespace Sys2Proof

/-- reg8: the seven 8-bit registers a field `r` or `s` names; code 6 is no register (R124). -/
inductive Reg8 | b | c | d | e | h | l | a
  deriving DecidableEq, Repr

/-- rp: the pairs of a field `p` (R124). -/
inductive Pair | bc | de | hl | sp
  deriving DecidableEq, Repr

/-- rp2: the pairs of a field `q`, for PUSH and POP (R124). -/
inductive StackPair | bc | de | hl | af
  deriving DecidableEq, Repr

/-- rp_ix: the pairs of ADD IX,pp (R124, R303). -/
inductive IxPair | bc | de | ix | sp
  deriving DecidableEq, Repr

/-- rp_iy: the pairs of ADD IY,pp (R124, R303). -/
inductive IyPair | bc | de | iy | sp
  deriving DecidableEq, Repr

/-- cc: the eight conditions of JP, CALL and RET (R126). -/
inductive Cond | nz | z | nc | c | po | pe | p | m
  deriving DecidableEq, Repr

/-- cc_jr: the four conditions of JR (R126). -/
inductive JrCond | nz | z | nc | c
  deriving DecidableEq, Repr

/-- The index register a DD (IX) or FD (IY) prefix selects, the `XY` of the rules (R127). -/
inductive Index | ix | iy
  deriving DecidableEq, Repr

/-- An instruction with its operands. `n` is an 8-bit and `nn` a 16-bit immediate, `d` and `e` signed bytes (R122); `b` is a
bit number and `t` a restart number (R128), both below 8 in a well-formed instruction. -/
inductive Instr
  /-- `NOP`, R450 -/
  | nop
  /-- `LD rp,nn`, R220 -/
  | ldPairNn (p : Pair) (nn : Word)
  /-- `ADD HL,rp`, R300 -/
  | addHlPair (p : Pair)
  /-- `LD (BC),A`, R211 -/
  | ldMemBcA
  /-- `LD (DE),A`, R212 -/
  | ldMemDeA
  /-- `LD (nn),HL`, R225 -/
  | ldMemNnHl (nn : Word)
  /-- `LD (nn),A`, R213 -/
  | ldMemNnA (nn : Word)
  /-- `LD A,(BC)`, R208 -/
  | ldAMemBc
  /-- `LD A,(DE)`, R209 -/
  | ldAMemDe
  /-- `LD HL,(nn)`, R222 -/
  | ldHlMemNn (nn : Word)
  /-- `LD A,(nn)`, R210 -/
  | ldAMemNn (nn : Word)
  /-- `INC rp`, R304 -/
  | incPair (p : Pair)
  /-- `DEC rp`, R306 -/
  | decPair (p : Pair)
  /-- `INC r`, R259 -/
  | incReg (r : Reg8)
  /-- `INC (HL)`, R260 -/
  | incMemHl
  /-- `DEC r`, R262 -/
  | decReg (r : Reg8)
  /-- `DEC (HL)`, R263 -/
  | decMemHl
  /-- `LD r,n`, R201 -/
  | ldRegN (r : Reg8) (n : Byte)
  /-- `LD (HL),n`, R206 -/
  | ldMemHlN (n : Byte)
  /-- `RLCA`, R320 -/
  | rlca
  /-- `RRCA`, R322 -/
  | rrca
  /-- `RLA`, R321 -/
  | rla
  /-- `RRA`, R323 -/
  | rra
  /-- `DAA`, R265 -/
  | daa
  /-- `CPL`, R266 -/
  | cpl
  /-- `SCF`, R269 -/
  | scf
  /-- `CCF`, R268 -/
  | ccf
  /-- `EX AF,AF'`, R437 -/
  | exAfAf
  /-- `DJNZ e`, R396 -/
  | djnz (e : Byte)
  /-- `JR e`, R392 -/
  | jr (e : Byte)
  /-- `JR k,e`, R393 -/
  | jrCond (k : JrCond) (e : Byte)
  /-- `LD r,s`, R200 -/
  | ldRegReg (r : Reg8) (src : Reg8)
  /-- `LD r,(HL)`, R202 -/
  | ldRegMemHl (r : Reg8)
  /-- `LD (HL),r`, R204 -/
  | ldMemHlReg (r : Reg8)
  /-- `HALT`, R451 -/
  | halt
  /-- `ADD A,s`, R251 -/
  | addReg (src : Reg8)
  /-- `ADD A,(HL)`, R251 -/
  | addMemHl
  /-- `ADD A,n`, R251 -/
  | addImm (n : Byte)
  /-- `ADC A,s`, R252 -/
  | adcReg (src : Reg8)
  /-- `ADC A,(HL)`, R252 -/
  | adcMemHl
  /-- `ADC A,n`, R252 -/
  | adcImm (n : Byte)
  /-- `SUB s`, R253 -/
  | subReg (src : Reg8)
  /-- `SUB (HL)`, R253 -/
  | subMemHl
  /-- `SUB n`, R253 -/
  | subImm (n : Byte)
  /-- `SBC A,s`, R254 -/
  | sbcReg (src : Reg8)
  /-- `SBC A,(HL)`, R254 -/
  | sbcMemHl
  /-- `SBC A,n`, R254 -/
  | sbcImm (n : Byte)
  /-- `AND s`, R255 -/
  | andReg (src : Reg8)
  /-- `AND (HL)`, R255 -/
  | andMemHl
  /-- `AND n`, R255 -/
  | andImm (n : Byte)
  /-- `XOR s`, R257 -/
  | xorReg (src : Reg8)
  /-- `XOR (HL)`, R257 -/
  | xorMemHl
  /-- `XOR n`, R257 -/
  | xorImm (n : Byte)
  /-- `OR s`, R256 -/
  | orReg (src : Reg8)
  /-- `OR (HL)`, R256 -/
  | orMemHl
  /-- `OR n`, R256 -/
  | orImm (n : Byte)
  /-- `CP s`, R258 -/
  | cpReg (src : Reg8)
  /-- `CP (HL)`, R258 -/
  | cpMemHl
  /-- `CP n`, R258 -/
  | cpImm (n : Byte)
  /-- `RET c`, R403 -/
  | retCond (cc : Cond)
  /-- `POP q`, R434 -/
  | popPair (q : StackPair)
  /-- `RET`, R402 -/
  | ret
  /-- `EXX`, R438 -/
  | exx
  /-- `JP (HL)`, R394 -/
  | jpHl
  /-- `LD SP,HL`, R228 -/
  | ldSpHl
  /-- `JP c,nn`, R391 -/
  | jpCond (cc : Cond) (nn : Word)
  /-- `JP nn`, R390 -/
  | jp (nn : Word)
  /-- `OUT (n),A`, R472 -/
  | outImmA (n : Byte)
  /-- `IN A,(n)`, R470 -/
  | inAImm (n : Byte)
  /-- `EX (SP),HL`, R439 -/
  | exMemSpHl
  /-- `EX DE,HL`, R436 -/
  | exDeHl
  /-- `DI`, R452 -/
  | di
  /-- `EI`, R453 -/
  | ei
  /-- `CALL c,nn`, R401 -/
  | callCond (cc : Cond) (nn : Word)
  /-- `PUSH q`, R432 -/
  | pushPair (q : StackPair)
  /-- `CALL nn`, R400 -/
  | call (nn : Word)
  /-- `RST t`, R410 -/
  | rst (t : Nat)
  /-- `RLC s`, R325 -/
  | rlcReg (src : Reg8)
  /-- `RLC (HL)`, R325 -/
  | rlcMemHl
  /-- `RRC s`, R327 -/
  | rrcReg (src : Reg8)
  /-- `RRC (HL)`, R327 -/
  | rrcMemHl
  /-- `RL s`, R326 -/
  | rlReg (src : Reg8)
  /-- `RL (HL)`, R326 -/
  | rlMemHl
  /-- `RR s`, R328 -/
  | rrReg (src : Reg8)
  /-- `RR (HL)`, R328 -/
  | rrMemHl
  /-- `SLA s`, R329 -/
  | slaReg (src : Reg8)
  /-- `SLA (HL)`, R329 -/
  | slaMemHl
  /-- `SRA s`, R330 -/
  | sraReg (src : Reg8)
  /-- `SRA (HL)`, R330 -/
  | sraMemHl
  /-- `SRL s`, R331 -/
  | srlReg (src : Reg8)
  /-- `SRL (HL)`, R331 -/
  | srlMemHl
  /-- `BIT b,s`, R350 -/
  | bitReg (b : Nat) (src : Reg8)
  /-- `BIT b,(HL)`, R351 -/
  | bitMemHl (b : Nat)
  /-- `RES b,s`, R356 -/
  | resReg (b : Nat) (src : Reg8)
  /-- `RES b,(HL)`, R357 -/
  | resMemHl (b : Nat)
  /-- `SET b,s`, R353 -/
  | setReg (b : Nat) (src : Reg8)
  /-- `SET b,(HL)`, R354 -/
  | setMemHl (b : Nat)
  /-- `IN r,(C)`, R471 -/
  | inRegC (r : Reg8)
  /-- `OUT (C),r`, R473 -/
  | outCReg (r : Reg8)
  /-- `SBC HL,rp`, R302 -/
  | sbcHlPair (p : Pair)
  /-- `ADC HL,rp`, R301 -/
  | adcHlPair (p : Pair)
  /-- `LD (nn),rp`, R226 -/
  | ldMemNnPair (nn : Word) (p : Pair)
  /-- `LD rp,(nn)`, R223 -/
  | ldPairMemNn (p : Pair) (nn : Word)
  /-- `NEG`, R267 -/
  | neg
  /-- `RETN`, R405 -/
  | retn
  /-- `RETI`, R404 -/
  | reti
  /-- `IM 0`, R455 -/
  | im0
  /-- `IM 1`, R456 -/
  | im1
  /-- `IM 2`, R457 -/
  | im2
  /-- `LD I,A`, R216 -/
  | ldIA
  /-- `LD R,A`, R217 -/
  | ldRA
  /-- `LD A,I`, R214 -/
  | ldAI
  /-- `LD A,R`, R215 -/
  | ldAR
  /-- `RRD`, R333 -/
  | rrd
  /-- `RLD`, R332 -/
  | rld
  /-- `LDI`, R370 -/
  | ldi
  /-- `CPI`, R374 -/
  | cpi
  /-- `INI`, R474 -/
  | ini
  /-- `OUTI`, R478 -/
  | outi
  /-- `LDD`, R371 -/
  | ldd
  /-- `CPD`, R375 -/
  | cpd
  /-- `IND`, R476 -/
  | ind
  /-- `OUTD`, R480 -/
  | outd
  /-- `LDIR`, R372 -/
  | ldir
  /-- `CPIR`, R376 -/
  | cpir
  /-- `INIR`, R475 -/
  | inir
  /-- `OTIR`, R479 -/
  | otir
  /-- `LDDR`, R373 -/
  | lddr
  /-- `CPDR`, R377 -/
  | cpdr
  /-- `INDR`, R477 -/
  | indr
  /-- `OTDR`, R481 -/
  | otdr
  /-- `ADD IX,pp`, R303 -/
  | addIxPair (p : IxPair)
  /-- `LD IX,nn`, R221 -/
  | ldIxNn (nn : Word)
  /-- `LD (nn),IX`, R227 -/
  | ldMemNnIx (nn : Word)
  /-- `INC IX`, R305 -/
  | incIx
  /-- `LD IX,(nn)`, R224 -/
  | ldIxMemNn (nn : Word)
  /-- `DEC IX`, R307 -/
  | decIx
  /-- `INC (IX+d)`, R261 -/
  | incMemIx (d : Byte)
  /-- `DEC (IX+d)`, R264 -/
  | decMemIx (d : Byte)
  /-- `LD (IX+d),n`, R207 -/
  | ldMemIxN (d : Byte) (n : Byte)
  /-- `LD r,(IX+d)`, R203 -/
  | ldRegMemIx (r : Reg8) (d : Byte)
  /-- `LD (IX+d),r`, R205 -/
  | ldMemIxReg (d : Byte) (r : Reg8)
  /-- `ADD A,(IX+d)`, R251 -/
  | addMemIx (d : Byte)
  /-- `ADC A,(IX+d)`, R252 -/
  | adcMemIx (d : Byte)
  /-- `SUB (IX+d)`, R253 -/
  | subMemIx (d : Byte)
  /-- `SBC A,(IX+d)`, R254 -/
  | sbcMemIx (d : Byte)
  /-- `AND (IX+d)`, R255 -/
  | andMemIx (d : Byte)
  /-- `XOR (IX+d)`, R257 -/
  | xorMemIx (d : Byte)
  /-- `OR (IX+d)`, R256 -/
  | orMemIx (d : Byte)
  /-- `CP (IX+d)`, R258 -/
  | cpMemIx (d : Byte)
  /-- `POP IX`, R435 -/
  | popIx
  /-- `EX (SP),IX`, R440 -/
  | exMemSpIx
  /-- `PUSH IX`, R433 -/
  | pushIx
  /-- `JP (IX)`, R395 -/
  | jpIx
  /-- `LD SP,IX`, R229 -/
  | ldSpIx
  /-- `RLC (IX+d)`, R325 -/
  | rlcMemIx (d : Byte)
  /-- `RRC (IX+d)`, R327 -/
  | rrcMemIx (d : Byte)
  /-- `RL (IX+d)`, R326 -/
  | rlMemIx (d : Byte)
  /-- `RR (IX+d)`, R328 -/
  | rrMemIx (d : Byte)
  /-- `SLA (IX+d)`, R329 -/
  | slaMemIx (d : Byte)
  /-- `SRA (IX+d)`, R330 -/
  | sraMemIx (d : Byte)
  /-- `SRL (IX+d)`, R331 -/
  | srlMemIx (d : Byte)
  /-- `BIT b,(IX+d)`, R352 -/
  | bitMemIx (b : Nat) (d : Byte)
  /-- `RES b,(IX+d)`, R358 -/
  | resMemIx (b : Nat) (d : Byte)
  /-- `SET b,(IX+d)`, R355 -/
  | setMemIx (b : Nat) (d : Byte)
  /-- `ADD IY,pp`, R303 -/
  | addIyPair (p : IyPair)
  /-- `LD IY,nn`, R221 -/
  | ldIyNn (nn : Word)
  /-- `LD (nn),IY`, R227 -/
  | ldMemNnIy (nn : Word)
  /-- `INC IY`, R305 -/
  | incIy
  /-- `LD IY,(nn)`, R224 -/
  | ldIyMemNn (nn : Word)
  /-- `DEC IY`, R307 -/
  | decIy
  /-- `INC (IY+d)`, R261 -/
  | incMemIy (d : Byte)
  /-- `DEC (IY+d)`, R264 -/
  | decMemIy (d : Byte)
  /-- `LD (IY+d),n`, R207 -/
  | ldMemIyN (d : Byte) (n : Byte)
  /-- `LD r,(IY+d)`, R203 -/
  | ldRegMemIy (r : Reg8) (d : Byte)
  /-- `LD (IY+d),r`, R205 -/
  | ldMemIyReg (d : Byte) (r : Reg8)
  /-- `ADD A,(IY+d)`, R251 -/
  | addMemIy (d : Byte)
  /-- `ADC A,(IY+d)`, R252 -/
  | adcMemIy (d : Byte)
  /-- `SUB (IY+d)`, R253 -/
  | subMemIy (d : Byte)
  /-- `SBC A,(IY+d)`, R254 -/
  | sbcMemIy (d : Byte)
  /-- `AND (IY+d)`, R255 -/
  | andMemIy (d : Byte)
  /-- `XOR (IY+d)`, R257 -/
  | xorMemIy (d : Byte)
  /-- `OR (IY+d)`, R256 -/
  | orMemIy (d : Byte)
  /-- `CP (IY+d)`, R258 -/
  | cpMemIy (d : Byte)
  /-- `POP IY`, R435 -/
  | popIy
  /-- `EX (SP),IY`, R440 -/
  | exMemSpIy
  /-- `PUSH IY`, R433 -/
  | pushIy
  /-- `JP (IY)`, R395 -/
  | jpIy
  /-- `LD SP,IY`, R229 -/
  | ldSpIy
  /-- `RLC (IY+d)`, R325 -/
  | rlcMemIy (d : Byte)
  /-- `RRC (IY+d)`, R327 -/
  | rrcMemIy (d : Byte)
  /-- `RL (IY+d)`, R326 -/
  | rlMemIy (d : Byte)
  /-- `RR (IY+d)`, R328 -/
  | rrMemIy (d : Byte)
  /-- `SLA (IY+d)`, R329 -/
  | slaMemIy (d : Byte)
  /-- `SRA (IY+d)`, R330 -/
  | sraMemIy (d : Byte)
  /-- `SRL (IY+d)`, R331 -/
  | srlMemIy (d : Byte)
  /-- `BIT b,(IY+d)`, R352 -/
  | bitMemIy (b : Nat) (d : Byte)
  /-- `RES b,(IY+d)`, R358 -/
  | resMemIy (b : Nat) (d : Byte)
  /-- `SET b,(IY+d)`, R355 -/
  | setMemIy (b : Nat) (d : Byte)
  deriving DecidableEq, Repr

end Sys2Proof
end

