-- ==== Sys2Proof/WellFormed.lean ====
section
/-! DEFINITION. Which instructions have an encoding: the bit number and the restart number are 3-bit fields (R128). Every
other operand type has exactly the values its field admits. -/

namespace Sys2Proof

/-- The bound every bit number and every restart number keeps (R128: fields `b` and `t` are 3 bits wide). -/
def inThreeBits (k : Nat) : Bool := decide (k < 8)

/-- The instruction's numbers fit their fields. -/
def Instr.wellFormed : Instr → Bool
  | .rst t => inThreeBits t
  | .bitReg b _ => inThreeBits b
  | .bitMemHl b => inThreeBits b
  | .resReg b _ => inThreeBits b
  | .resMemHl b => inThreeBits b
  | .setReg b _ => inThreeBits b
  | .setMemHl b => inThreeBits b
  | .bitMemIx b _ => inThreeBits b
  | .resMemIx b _ => inThreeBits b
  | .setMemIx b _ => inThreeBits b
  | .bitMemIy b _ => inThreeBits b
  | .resMemIy b _ => inThreeBits b
  | .setMemIy b _ => inThreeBits b
  | .nop => true
  | .ldPairNn _ _ => true
  | .addHlPair _ => true
  | .ldMemBcA => true
  | .ldMemDeA => true
  | .ldMemNnHl _ => true
  | .ldMemNnA _ => true
  | .ldAMemBc => true
  | .ldAMemDe => true
  | .ldHlMemNn _ => true
  | .ldAMemNn _ => true
  | .incPair _ => true
  | .decPair _ => true
  | .incReg _ => true
  | .incMemHl => true
  | .decReg _ => true
  | .decMemHl => true
  | .ldRegN _ _ => true
  | .ldMemHlN _ => true
  | .rlca => true
  | .rrca => true
  | .rla => true
  | .rra => true
  | .daa => true
  | .cpl => true
  | .scf => true
  | .ccf => true
  | .exAfAf => true
  | .djnz _ => true
  | .jr _ => true
  | .jrCond _ _ => true
  | .ldRegReg _ _ => true
  | .ldRegMemHl _ => true
  | .ldMemHlReg _ => true
  | .halt => true
  | .addReg _ => true
  | .addMemHl => true
  | .addImm _ => true
  | .adcReg _ => true
  | .adcMemHl => true
  | .adcImm _ => true
  | .subReg _ => true
  | .subMemHl => true
  | .subImm _ => true
  | .sbcReg _ => true
  | .sbcMemHl => true
  | .sbcImm _ => true
  | .andReg _ => true
  | .andMemHl => true
  | .andImm _ => true
  | .xorReg _ => true
  | .xorMemHl => true
  | .xorImm _ => true
  | .orReg _ => true
  | .orMemHl => true
  | .orImm _ => true
  | .cpReg _ => true
  | .cpMemHl => true
  | .cpImm _ => true
  | .retCond _ => true
  | .popPair _ => true
  | .ret => true
  | .exx => true
  | .jpHl => true
  | .ldSpHl => true
  | .jpCond _ _ => true
  | .jp _ => true
  | .outImmA _ => true
  | .inAImm _ => true
  | .exMemSpHl => true
  | .exDeHl => true
  | .di => true
  | .ei => true
  | .callCond _ _ => true
  | .pushPair _ => true
  | .call _ => true
  | .rlcReg _ => true
  | .rlcMemHl => true
  | .rrcReg _ => true
  | .rrcMemHl => true
  | .rlReg _ => true
  | .rlMemHl => true
  | .rrReg _ => true
  | .rrMemHl => true
  | .slaReg _ => true
  | .slaMemHl => true
  | .sraReg _ => true
  | .sraMemHl => true
  | .srlReg _ => true
  | .srlMemHl => true
  | .inRegC _ => true
  | .outCReg _ => true
  | .sbcHlPair _ => true
  | .adcHlPair _ => true
  | .ldMemNnPair _ _ => true
  | .ldPairMemNn _ _ => true
  | .neg => true
  | .retn => true
  | .reti => true
  | .im0 => true
  | .im1 => true
  | .im2 => true
  | .ldIA => true
  | .ldRA => true
  | .ldAI => true
  | .ldAR => true
  | .rrd => true
  | .rld => true
  | .ldi => true
  | .cpi => true
  | .ini => true
  | .outi => true
  | .ldd => true
  | .cpd => true
  | .ind => true
  | .outd => true
  | .ldir => true
  | .cpir => true
  | .inir => true
  | .otir => true
  | .lddr => true
  | .cpdr => true
  | .indr => true
  | .otdr => true
  | .addIxPair _ => true
  | .ldIxNn _ => true
  | .ldMemNnIx _ => true
  | .incIx => true
  | .ldIxMemNn _ => true
  | .decIx => true
  | .incMemIx _ => true
  | .decMemIx _ => true
  | .ldMemIxN _ _ => true
  | .ldRegMemIx _ _ => true
  | .ldMemIxReg _ _ => true
  | .addMemIx _ => true
  | .adcMemIx _ => true
  | .subMemIx _ => true
  | .sbcMemIx _ => true
  | .andMemIx _ => true
  | .xorMemIx _ => true
  | .orMemIx _ => true
  | .cpMemIx _ => true
  | .popIx => true
  | .exMemSpIx => true
  | .pushIx => true
  | .jpIx => true
  | .ldSpIx => true
  | .rlcMemIx _ => true
  | .rrcMemIx _ => true
  | .rlMemIx _ => true
  | .rrMemIx _ => true
  | .slaMemIx _ => true
  | .sraMemIx _ => true
  | .srlMemIx _ => true
  | .addIyPair _ => true
  | .ldIyNn _ => true
  | .ldMemNnIy _ => true
  | .incIy => true
  | .ldIyMemNn _ => true
  | .decIy => true
  | .incMemIy _ => true
  | .decMemIy _ => true
  | .ldMemIyN _ _ => true
  | .ldRegMemIy _ _ => true
  | .ldMemIyReg _ _ => true
  | .addMemIy _ => true
  | .adcMemIy _ => true
  | .subMemIy _ => true
  | .sbcMemIy _ => true
  | .andMemIy _ => true
  | .xorMemIy _ => true
  | .orMemIy _ => true
  | .cpMemIy _ => true
  | .popIy => true
  | .exMemSpIy => true
  | .pushIy => true
  | .jpIy => true
  | .ldSpIy => true
  | .rlcMemIy _ => true
  | .rrcMemIy _ => true
  | .rlMemIy _ => true
  | .rrMemIy _ => true
  | .slaMemIy _ => true
  | .sraMemIy _ => true
  | .srlMemIy _ => true

end Sys2Proof
end

