-- ==== Sys2Proof/Decode.lean ====
section
/-! DEFINITION. The decoder, written as the opcode tables of R131 to R135 (a mask, a pattern and the instruction each row
builds), and the encoder. Every encoding is that of spec/30_encoding.md and spec/opcode_table.json. -/

namespace Sys2Proof

/-- o[5:3]: the fields r, c, b, t (R128). -/
def mid3 (o : Byte) : BitVec 3 := o.extractLsb' 3 3

/-- o[2:0]: the field s (R128). -/
def low3 (o : Byte) : BitVec 3 := o.extractLsb' 0 3

/-- o[5:4]: the fields p and q (R128). -/
def pairField (o : Byte) : BitVec 2 := o.extractLsb' 4 2

/-- o[4:3]: the field k (R128). -/
def jrField (o : Byte) : BitVec 2 := o.extractLsb' 3 2

/-- reg8 by its code; code 6 is memory at HL, which is no register (R124). -/
def Reg8.ofCode (code : BitVec 3) : Option Reg8 :=
  match code.toNat with
  | 0 => some .b
  | 1 => some .c
  | 2 => some .d
  | 3 => some .e
  | 4 => some .h
  | 5 => some .l
  | 7 => some .a
  | _ => none

def Reg8.code : Reg8 → BitVec 3
  | .b => 0
  | .c => 1
  | .d => 2
  | .e => 3
  | .h => 4
  | .l => 5
  | .a => 7

/-- rp by its code (R124). -/
def Pair.ofCode (code : BitVec 2) : Pair :=
  match code.toNat with
  | 0 => .bc
  | 1 => .de
  | 2 => .hl
  | _ => .sp

def Pair.code : Pair → BitVec 2
  | .bc => 0
  | .de => 1
  | .hl => 2
  | .sp => 3

/-- rp2 by its code (R124). -/
def StackPair.ofCode (code : BitVec 2) : StackPair :=
  match code.toNat with
  | 0 => .bc
  | 1 => .de
  | 2 => .hl
  | _ => .af

def StackPair.code : StackPair → BitVec 2
  | .bc => 0
  | .de => 1
  | .hl => 2
  | .af => 3

/-- rp_ix by its code (R124). -/
def IxPair.ofCode (code : BitVec 2) : IxPair :=
  match code.toNat with
  | 0 => .bc
  | 1 => .de
  | 2 => .ix
  | _ => .sp

def IxPair.code : IxPair → BitVec 2
  | .bc => 0
  | .de => 1
  | .ix => 2
  | .sp => 3

/-- rp_iy by its code (R124). -/
def IyPair.ofCode (code : BitVec 2) : IyPair :=
  match code.toNat with
  | 0 => .bc
  | 1 => .de
  | 2 => .iy
  | _ => .sp

def IyPair.code : IyPair → BitVec 2
  | .bc => 0
  | .de => 1
  | .iy => 2
  | .sp => 3

/-- cc by its code (R126). -/
def Cond.ofCode (code : BitVec 3) : Cond :=
  match code.toNat with
  | 0 => .nz
  | 1 => .z
  | 2 => .nc
  | 3 => .c
  | 4 => .po
  | 5 => .pe
  | 6 => .p
  | _ => .m

def Cond.code : Cond → BitVec 3
  | .nz => 0
  | .z => 1
  | .nc => 2
  | .c => 3
  | .po => 4
  | .pe => 5
  | .p => 6
  | .m => 7

/-- cc_jr by its code (R126). -/
def JrCond.ofCode (code : BitVec 2) : JrCond :=
  match code.toNat with
  | 0 => .nz
  | 1 => .z
  | 2 => .nc
  | _ => .c

def JrCond.code : JrCond → BitVec 2
  | .nz => 0
  | .z => 1
  | .nc => 2
  | .c => 3

/-- The DD form or the FD form of a row (R127, R134). -/
def Index.pick (x : Index) (dd fd : Instr) : Instr :=
  match x with
  | .ix => dd
  | .iy => fd

/-- One row of an opcode table: the bits of the opcode byte it fixes, the length of the instruction in bytes (R120), and the
instruction built from the opcode byte and the two bytes that follow it (for the DD CB and FD CB table, from the final byte
and the displacement). A row whose register field holds code 6 builds nothing. -/
structure Row where
  mask : Byte
  pattern : Byte
  len : Nat
  build : Byte → Byte → Byte → Option Instr

/-- The unprefixed opcodes, R131. Part 1. -/
def baseTable1 : List Row := [
  ⟨0xFF, 0x00, 1, fun _ _ _ => some .nop⟩,
  ⟨0xCF, 0x01, 3, fun o l h => some (.ldPairNn (.ofCode (pairField o)) (join h l))⟩,
  ⟨0xCF, 0x09, 1, fun o _ _ => some (.addHlPair (.ofCode (pairField o)))⟩,
  ⟨0xFF, 0x02, 1, fun _ _ _ => some .ldMemBcA⟩,
  ⟨0xFF, 0x12, 1, fun _ _ _ => some .ldMemDeA⟩,
  ⟨0xFF, 0x22, 3, fun _ l h => some (.ldMemNnHl (join h l))⟩,
  ⟨0xFF, 0x32, 3, fun _ l h => some (.ldMemNnA (join h l))⟩,
  ⟨0xFF, 0x0A, 1, fun _ _ _ => some .ldAMemBc⟩,
  ⟨0xFF, 0x1A, 1, fun _ _ _ => some .ldAMemDe⟩,
  ⟨0xFF, 0x2A, 3, fun _ l h => some (.ldHlMemNn (join h l))⟩,
  ⟨0xFF, 0x3A, 3, fun _ l h => some (.ldAMemNn (join h l))⟩,
  ⟨0xCF, 0x03, 1, fun o _ _ => some (.incPair (.ofCode (pairField o)))⟩,
  ⟨0xCF, 0x0B, 1, fun o _ _ => some (.decPair (.ofCode (pairField o)))⟩,
  ⟨0xC7, 0x04, 1, fun o _ _ => (Reg8.ofCode (mid3 o)).map fun r => .incReg r⟩,
  ⟨0xFF, 0x34, 1, fun _ _ _ => some .incMemHl⟩,
  ⟨0xC7, 0x05, 1, fun o _ _ => (Reg8.ofCode (mid3 o)).map fun r => .decReg r⟩,
  ⟨0xFF, 0x35, 1, fun _ _ _ => some .decMemHl⟩,
  ⟨0xC7, 0x06, 2, fun o n _ => (Reg8.ofCode (mid3 o)).map fun r => .ldRegN r n⟩,
  ⟨0xFF, 0x36, 2, fun _ n _ => some (.ldMemHlN n)⟩,
  ⟨0xFF, 0x07, 1, fun _ _ _ => some .rlca⟩,
  ⟨0xFF, 0x0F, 1, fun _ _ _ => some .rrca⟩,
  ⟨0xFF, 0x17, 1, fun _ _ _ => some .rla⟩,
  ⟨0xFF, 0x1F, 1, fun _ _ _ => some .rra⟩,
  ⟨0xFF, 0x27, 1, fun _ _ _ => some .daa⟩,
  ⟨0xFF, 0x2F, 1, fun _ _ _ => some .cpl⟩,
  ⟨0xFF, 0x37, 1, fun _ _ _ => some .scf⟩,
  ⟨0xFF, 0x3F, 1, fun _ _ _ => some .ccf⟩,
  ⟨0xFF, 0x08, 1, fun _ _ _ => some .exAfAf⟩]

/-- The unprefixed opcodes, R131. Part 2. -/
def baseTable2 : List Row := [
  ⟨0xFF, 0x10, 2, fun _ e _ => some (.djnz e)⟩,
  ⟨0xFF, 0x18, 2, fun _ e _ => some (.jr e)⟩,
  ⟨0xE7, 0x20, 2, fun o e _ => some (.jrCond (.ofCode (jrField o)) e)⟩,
  ⟨0xC0, 0x40, 1, fun o _ _ => (Reg8.ofCode (mid3 o)).bind fun r => (Reg8.ofCode (low3 o)).map fun src => .ldRegReg r src⟩,
  ⟨0xC7, 0x46, 1, fun o _ _ => (Reg8.ofCode (mid3 o)).map fun r => .ldRegMemHl r⟩,
  ⟨0xF8, 0x70, 1, fun o _ _ => (Reg8.ofCode (low3 o)).map fun r => .ldMemHlReg r⟩,
  ⟨0xFF, 0x76, 1, fun _ _ _ => some .halt⟩,
  ⟨0xF8, 0x80, 1, fun o _ _ => (Reg8.ofCode (low3 o)).map fun src => .addReg src⟩,
  ⟨0xFF, 0x86, 1, fun _ _ _ => some .addMemHl⟩,
  ⟨0xFF, 0xC6, 2, fun _ n _ => some (.addImm n)⟩,
  ⟨0xF8, 0x88, 1, fun o _ _ => (Reg8.ofCode (low3 o)).map fun src => .adcReg src⟩,
  ⟨0xFF, 0x8E, 1, fun _ _ _ => some .adcMemHl⟩,
  ⟨0xFF, 0xCE, 2, fun _ n _ => some (.adcImm n)⟩,
  ⟨0xF8, 0x90, 1, fun o _ _ => (Reg8.ofCode (low3 o)).map fun src => .subReg src⟩,
  ⟨0xFF, 0x96, 1, fun _ _ _ => some .subMemHl⟩,
  ⟨0xFF, 0xD6, 2, fun _ n _ => some (.subImm n)⟩,
  ⟨0xF8, 0x98, 1, fun o _ _ => (Reg8.ofCode (low3 o)).map fun src => .sbcReg src⟩,
  ⟨0xFF, 0x9E, 1, fun _ _ _ => some .sbcMemHl⟩,
  ⟨0xFF, 0xDE, 2, fun _ n _ => some (.sbcImm n)⟩,
  ⟨0xF8, 0xA0, 1, fun o _ _ => (Reg8.ofCode (low3 o)).map fun src => .andReg src⟩,
  ⟨0xFF, 0xA6, 1, fun _ _ _ => some .andMemHl⟩,
  ⟨0xFF, 0xE6, 2, fun _ n _ => some (.andImm n)⟩,
  ⟨0xF8, 0xA8, 1, fun o _ _ => (Reg8.ofCode (low3 o)).map fun src => .xorReg src⟩,
  ⟨0xFF, 0xAE, 1, fun _ _ _ => some .xorMemHl⟩,
  ⟨0xFF, 0xEE, 2, fun _ n _ => some (.xorImm n)⟩,
  ⟨0xF8, 0xB0, 1, fun o _ _ => (Reg8.ofCode (low3 o)).map fun src => .orReg src⟩,
  ⟨0xFF, 0xB6, 1, fun _ _ _ => some .orMemHl⟩,
  ⟨0xFF, 0xF6, 2, fun _ n _ => some (.orImm n)⟩]

/-- The unprefixed opcodes, R131. Part 3. -/
def baseTable3 : List Row := [
  ⟨0xF8, 0xB8, 1, fun o _ _ => (Reg8.ofCode (low3 o)).map fun src => .cpReg src⟩,
  ⟨0xFF, 0xBE, 1, fun _ _ _ => some .cpMemHl⟩,
  ⟨0xFF, 0xFE, 2, fun _ n _ => some (.cpImm n)⟩,
  ⟨0xC7, 0xC0, 1, fun o _ _ => some (.retCond (.ofCode (mid3 o)))⟩,
  ⟨0xCF, 0xC1, 1, fun o _ _ => some (.popPair (.ofCode (pairField o)))⟩,
  ⟨0xFF, 0xC9, 1, fun _ _ _ => some .ret⟩,
  ⟨0xFF, 0xD9, 1, fun _ _ _ => some .exx⟩,
  ⟨0xFF, 0xE9, 1, fun _ _ _ => some .jpHl⟩,
  ⟨0xFF, 0xF9, 1, fun _ _ _ => some .ldSpHl⟩,
  ⟨0xC7, 0xC2, 3, fun o l h => some (.jpCond (.ofCode (mid3 o)) (join h l))⟩,
  ⟨0xFF, 0xC3, 3, fun _ l h => some (.jp (join h l))⟩,
  ⟨0xFF, 0xD3, 2, fun _ n _ => some (.outImmA n)⟩,
  ⟨0xFF, 0xDB, 2, fun _ n _ => some (.inAImm n)⟩,
  ⟨0xFF, 0xE3, 1, fun _ _ _ => some .exMemSpHl⟩,
  ⟨0xFF, 0xEB, 1, fun _ _ _ => some .exDeHl⟩,
  ⟨0xFF, 0xF3, 1, fun _ _ _ => some .di⟩,
  ⟨0xFF, 0xFB, 1, fun _ _ _ => some .ei⟩,
  ⟨0xC7, 0xC4, 3, fun o l h => some (.callCond (.ofCode (mid3 o)) (join h l))⟩,
  ⟨0xCF, 0xC5, 1, fun o _ _ => some (.pushPair (.ofCode (pairField o)))⟩,
  ⟨0xFF, 0xCD, 3, fun _ l h => some (.call (join h l))⟩,
  ⟨0xC7, 0xC7, 1, fun o _ _ => some (.rst (mid3 o).toNat)⟩]

/-- The unprefixed opcodes, R131. -/
def baseTable : List Row := baseTable1 ++ baseTable2 ++ baseTable3

/-- The opcodes after CB, R132. -/
def cbTable : List Row := [
  ⟨0xF8, 0x00, 2, fun o _ _ => (Reg8.ofCode (low3 o)).map fun src => .rlcReg src⟩,
  ⟨0xFF, 0x06, 2, fun _ _ _ => some .rlcMemHl⟩,
  ⟨0xF8, 0x08, 2, fun o _ _ => (Reg8.ofCode (low3 o)).map fun src => .rrcReg src⟩,
  ⟨0xFF, 0x0E, 2, fun _ _ _ => some .rrcMemHl⟩,
  ⟨0xF8, 0x10, 2, fun o _ _ => (Reg8.ofCode (low3 o)).map fun src => .rlReg src⟩,
  ⟨0xFF, 0x16, 2, fun _ _ _ => some .rlMemHl⟩,
  ⟨0xF8, 0x18, 2, fun o _ _ => (Reg8.ofCode (low3 o)).map fun src => .rrReg src⟩,
  ⟨0xFF, 0x1E, 2, fun _ _ _ => some .rrMemHl⟩,
  ⟨0xF8, 0x20, 2, fun o _ _ => (Reg8.ofCode (low3 o)).map fun src => .slaReg src⟩,
  ⟨0xFF, 0x26, 2, fun _ _ _ => some .slaMemHl⟩,
  ⟨0xF8, 0x28, 2, fun o _ _ => (Reg8.ofCode (low3 o)).map fun src => .sraReg src⟩,
  ⟨0xFF, 0x2E, 2, fun _ _ _ => some .sraMemHl⟩,
  ⟨0xF8, 0x38, 2, fun o _ _ => (Reg8.ofCode (low3 o)).map fun src => .srlReg src⟩,
  ⟨0xFF, 0x3E, 2, fun _ _ _ => some .srlMemHl⟩,
  ⟨0xC0, 0x40, 2, fun o _ _ => (Reg8.ofCode (low3 o)).map fun src => .bitReg (mid3 o).toNat src⟩,
  ⟨0xC7, 0x46, 2, fun o _ _ => some (.bitMemHl (mid3 o).toNat)⟩,
  ⟨0xC0, 0x80, 2, fun o _ _ => (Reg8.ofCode (low3 o)).map fun src => .resReg (mid3 o).toNat src⟩,
  ⟨0xC7, 0x86, 2, fun o _ _ => some (.resMemHl (mid3 o).toNat)⟩,
  ⟨0xC0, 0xC0, 2, fun o _ _ => (Reg8.ofCode (low3 o)).map fun src => .setReg (mid3 o).toNat src⟩,
  ⟨0xC7, 0xC6, 2, fun o _ _ => some (.setMemHl (mid3 o).toNat)⟩]

/-- The opcodes after ED, R133. Part 1. -/
def edTable1 : List Row := [
  ⟨0xC7, 0x40, 2, fun o _ _ => (Reg8.ofCode (mid3 o)).map fun r => .inRegC r⟩,
  ⟨0xC7, 0x41, 2, fun o _ _ => (Reg8.ofCode (mid3 o)).map fun r => .outCReg r⟩,
  ⟨0xCF, 0x42, 2, fun o _ _ => some (.sbcHlPair (.ofCode (pairField o)))⟩,
  ⟨0xCF, 0x4A, 2, fun o _ _ => some (.adcHlPair (.ofCode (pairField o)))⟩,
  ⟨0xCF, 0x43, 4, fun o l h => some (.ldMemNnPair (join h l) (.ofCode (pairField o)))⟩,
  ⟨0xCF, 0x4B, 4, fun o l h => some (.ldPairMemNn (.ofCode (pairField o)) (join h l))⟩,
  ⟨0xFF, 0x44, 2, fun _ _ _ => some .neg⟩,
  ⟨0xFF, 0x45, 2, fun _ _ _ => some .retn⟩,
  ⟨0xFF, 0x4D, 2, fun _ _ _ => some .reti⟩,
  ⟨0xFF, 0x46, 2, fun _ _ _ => some .im0⟩,
  ⟨0xFF, 0x56, 2, fun _ _ _ => some .im1⟩,
  ⟨0xFF, 0x5E, 2, fun _ _ _ => some .im2⟩,
  ⟨0xFF, 0x47, 2, fun _ _ _ => some .ldIA⟩,
  ⟨0xFF, 0x4F, 2, fun _ _ _ => some .ldRA⟩,
  ⟨0xFF, 0x57, 2, fun _ _ _ => some .ldAI⟩,
  ⟨0xFF, 0x5F, 2, fun _ _ _ => some .ldAR⟩,
  ⟨0xFF, 0x67, 2, fun _ _ _ => some .rrd⟩,
  ⟨0xFF, 0x6F, 2, fun _ _ _ => some .rld⟩,
  ⟨0xFF, 0xA0, 2, fun _ _ _ => some .ldi⟩,
  ⟨0xFF, 0xA1, 2, fun _ _ _ => some .cpi⟩,
  ⟨0xFF, 0xA2, 2, fun _ _ _ => some .ini⟩,
  ⟨0xFF, 0xA3, 2, fun _ _ _ => some .outi⟩,
  ⟨0xFF, 0xA8, 2, fun _ _ _ => some .ldd⟩,
  ⟨0xFF, 0xA9, 2, fun _ _ _ => some .cpd⟩,
  ⟨0xFF, 0xAA, 2, fun _ _ _ => some .ind⟩,
  ⟨0xFF, 0xAB, 2, fun _ _ _ => some .outd⟩,
  ⟨0xFF, 0xB0, 2, fun _ _ _ => some .ldir⟩,
  ⟨0xFF, 0xB1, 2, fun _ _ _ => some .cpir⟩]

/-- The opcodes after ED, R133. Part 2. -/
def edTable2 : List Row := [
  ⟨0xFF, 0xB2, 2, fun _ _ _ => some .inir⟩,
  ⟨0xFF, 0xB3, 2, fun _ _ _ => some .otir⟩,
  ⟨0xFF, 0xB8, 2, fun _ _ _ => some .lddr⟩,
  ⟨0xFF, 0xB9, 2, fun _ _ _ => some .cpdr⟩,
  ⟨0xFF, 0xBA, 2, fun _ _ _ => some .indr⟩,
  ⟨0xFF, 0xBB, 2, fun _ _ _ => some .otdr⟩]

/-- The opcodes after ED, R133. -/
def edTable : List Row := edTable1 ++ edTable2

/-- The opcodes after DD (IX) or FD (IY), R134. -/
def indexTable (x : Index) : List Row := [
  ⟨0xCF, 0x09, 2, fun o _ _ => some (x.pick (.addIxPair (.ofCode (pairField o))) (.addIyPair (.ofCode (pairField o))))⟩,
  ⟨0xFF, 0x21, 4, fun _ l h => some (x.pick (.ldIxNn (join h l)) (.ldIyNn (join h l)))⟩,
  ⟨0xFF, 0x22, 4, fun _ l h => some (x.pick (.ldMemNnIx (join h l)) (.ldMemNnIy (join h l)))⟩,
  ⟨0xFF, 0x23, 2, fun _ _ _ => some (x.pick .incIx .incIy)⟩,
  ⟨0xFF, 0x2A, 4, fun _ l h => some (x.pick (.ldIxMemNn (join h l)) (.ldIyMemNn (join h l)))⟩,
  ⟨0xFF, 0x2B, 2, fun _ _ _ => some (x.pick .decIx .decIy)⟩,
  ⟨0xFF, 0x34, 3, fun _ d _ => some (x.pick (.incMemIx d) (.incMemIy d))⟩,
  ⟨0xFF, 0x35, 3, fun _ d _ => some (x.pick (.decMemIx d) (.decMemIy d))⟩,
  ⟨0xFF, 0x36, 4, fun _ d n => some (x.pick (.ldMemIxN d n) (.ldMemIyN d n))⟩,
  ⟨0xC7, 0x46, 3, fun o d _ => (Reg8.ofCode (mid3 o)).map fun r => x.pick (.ldRegMemIx r d) (.ldRegMemIy r d)⟩,
  ⟨0xF8, 0x70, 3, fun o d _ => (Reg8.ofCode (low3 o)).map fun r => x.pick (.ldMemIxReg d r) (.ldMemIyReg d r)⟩,
  ⟨0xFF, 0x86, 3, fun _ d _ => some (x.pick (.addMemIx d) (.addMemIy d))⟩,
  ⟨0xFF, 0x8E, 3, fun _ d _ => some (x.pick (.adcMemIx d) (.adcMemIy d))⟩,
  ⟨0xFF, 0x96, 3, fun _ d _ => some (x.pick (.subMemIx d) (.subMemIy d))⟩,
  ⟨0xFF, 0x9E, 3, fun _ d _ => some (x.pick (.sbcMemIx d) (.sbcMemIy d))⟩,
  ⟨0xFF, 0xA6, 3, fun _ d _ => some (x.pick (.andMemIx d) (.andMemIy d))⟩,
  ⟨0xFF, 0xAE, 3, fun _ d _ => some (x.pick (.xorMemIx d) (.xorMemIy d))⟩,
  ⟨0xFF, 0xB6, 3, fun _ d _ => some (x.pick (.orMemIx d) (.orMemIy d))⟩,
  ⟨0xFF, 0xBE, 3, fun _ d _ => some (x.pick (.cpMemIx d) (.cpMemIy d))⟩,
  ⟨0xFF, 0xE1, 2, fun _ _ _ => some (x.pick .popIx .popIy)⟩,
  ⟨0xFF, 0xE3, 2, fun _ _ _ => some (x.pick .exMemSpIx .exMemSpIy)⟩,
  ⟨0xFF, 0xE5, 2, fun _ _ _ => some (x.pick .pushIx .pushIy)⟩,
  ⟨0xFF, 0xE9, 2, fun _ _ _ => some (x.pick .jpIx .jpIy)⟩,
  ⟨0xFF, 0xF9, 2, fun _ _ _ => some (x.pick .ldSpIx .ldSpIy)⟩]

/-- The final bytes after DD CB d or FD CB d, R135. -/
def indexCbTable (x : Index) : List Row := [
  ⟨0xFF, 0x06, 4, fun _ d _ => some (x.pick (.rlcMemIx d) (.rlcMemIy d))⟩,
  ⟨0xFF, 0x0E, 4, fun _ d _ => some (x.pick (.rrcMemIx d) (.rrcMemIy d))⟩,
  ⟨0xFF, 0x16, 4, fun _ d _ => some (x.pick (.rlMemIx d) (.rlMemIy d))⟩,
  ⟨0xFF, 0x1E, 4, fun _ d _ => some (x.pick (.rrMemIx d) (.rrMemIy d))⟩,
  ⟨0xFF, 0x26, 4, fun _ d _ => some (x.pick (.slaMemIx d) (.slaMemIy d))⟩,
  ⟨0xFF, 0x2E, 4, fun _ d _ => some (x.pick (.sraMemIx d) (.sraMemIy d))⟩,
  ⟨0xFF, 0x3E, 4, fun _ d _ => some (x.pick (.srlMemIx d) (.srlMemIy d))⟩,
  ⟨0xC7, 0x46, 4, fun o d _ => some (x.pick (.bitMemIx (mid3 o).toNat d) (.bitMemIy (mid3 o).toNat d))⟩,
  ⟨0xC7, 0x86, 4, fun o d _ => some (x.pick (.resMemIx (mid3 o).toNat d) (.resMemIy (mid3 o).toNat d))⟩,
  ⟨0xC7, 0xC6, 4, fun o d _ => some (x.pick (.setMemIx (mid3 o).toNat d) (.setMemIy (mid3 o).toNat d))⟩]

/-- A decoded instruction: its length in bytes and its number of opcode fetches, the M1 cycles (R123). -/
structure Decoded where
  instr : Instr
  len : Nat
  m1 : Nat
  deriving DecidableEq, Repr

/-- Why a byte sequence is no instruction: the rows of R136. -/
inductive DecodeError
  /-- CB 30 to CB 37. -/
  | undefinedCb (o : Byte)
  /-- An ED opcode that is not among the 58 of R133. -/
  | undefinedEd (o : Byte)
  /-- A DD or FD before a byte that has no indexed form. -/
  | noIndexedForm (x : Byte) (o : Byte)
  /-- A DD CB or FD CB sequence whose final byte is not among the 31 of R135. -/
  | undefinedIndexedCb (x d o : Byte)
  /-- An unprefixed byte that selects nothing: there is none (R131), proved in Laws/Decode.lean. -/
  | undefinedBase (o : Byte)
  deriving DecidableEq, Repr

/-- The bytes fetched through the deciding byte, the `opcode` of the fault record (R121, R502). -/
def DecodeError.opcode : DecodeError → List Byte
  | .undefinedCb o => [0xCB, o]
  | .undefinedEd o => [0xED, o]
  | .noIndexedForm x o => [x, o]
  | .undefinedIndexedCb x d o => [x, 0xCB, d, o]
  | .undefinedBase o => [o]

/-- The first row that matches the opcode byte `o` and builds an instruction. -/
def lookup (rows : List Row) (m1 : Nat) (o p1 p2 : Byte) : Option Decoded :=
  rows.findSome? fun row =>
    if o &&& row.mask = row.pattern then (row.build o p1 p2).map fun i => ⟨i, row.len, m1⟩ else none

/-- A found instruction, or the error that names what was not found. -/
def orError (found : Option Decoded) (e : DecodeError) : Except DecodeError Decoded :=
  match found with
  | some d => .ok d
  | none => .error e

/-- The sequences DD … and FD … (R121, R127): `p` is the first byte itself. -/
def decodeIndexed (x : Index) (p b1 b2 b3 : Byte) : Except DecodeError Decoded :=
  if b1 = 0xCB then orError (lookup (indexCbTable x) 2 b3 b2 0) (.undefinedIndexedCb p b2 b3)
  else orError (lookup (indexTable x) 2 b1 b2 b3) (.noIndexedForm p b1)

/-- The decoder of R121, on the four bytes from the instruction's address on; the bytes beyond the instruction's length are
not looked at. -/
def decode (b0 b1 b2 b3 : Byte) : Except DecodeError Decoded :=
  if b0 = 0xCB then orError (lookup cbTable 2 b1 b2 b3) (.undefinedCb b1)
  else if b0 = 0xED then orError (lookup edTable 2 b1 b2 b3) (.undefinedEd b1)
  else if b0 = 0xDD then decodeIndexed .ix b0 b1 b2 b3
  else if b0 = 0xFD then decodeIndexed .iy b0 b1 b2 b3
  else orError (lookup baseTable 1 b0 b1 b2) (.undefinedBase b0)

/-- The `k`-th byte of an instruction whose `nbits` bits are `w`, numbered as spec/opcode_table.json numbers them: its
`match`, `mask` and `fixed` put the first byte in the most significant place (`LD rp,nn` has match 0x010000). A byte beyond
the `nbits` bits is 0. -/
def tableByte (nbits w k : Nat) : Byte :=
  if 8 * (k + 1) ≤ nbits then BitVec.ofNat 8 (w >>> (nbits - 8 * (k + 1))) else 0

/-- What the decoder reads from an instruction given as the opcode table numbers its bits. -/
def decodeTableWord (nbits w : Nat) : Option Instr :=
  match decode (tableByte nbits w 0) (tableByte nbits w 1) (tableByte nbits w 2) (tableByte nbits w 3) with
  | .ok d => some d.instr
  | .error _ => none

/-- The bit-number or restart field of an opcode byte. -/
def code3 (k : Nat) : BitVec 3 := BitVec.ofNat 3 k

/-- The bytes of a well-formed instruction in address order (R120, R122, opcode_table.json). -/
def encode : Instr → List Byte
  | .nop => [0x00]
  | .ldPairNn p nn => [0b00#2 ++ p.code ++ 0b0001#4, lo8 nn, hi8 nn]
  | .addHlPair p => [0b00#2 ++ p.code ++ 0b1001#4]
  | .ldMemBcA => [0x02]
  | .ldMemDeA => [0x12]
  | .ldMemNnHl nn => [0x22, lo8 nn, hi8 nn]
  | .ldMemNnA nn => [0x32, lo8 nn, hi8 nn]
  | .ldAMemBc => [0x0A]
  | .ldAMemDe => [0x1A]
  | .ldHlMemNn nn => [0x2A, lo8 nn, hi8 nn]
  | .ldAMemNn nn => [0x3A, lo8 nn, hi8 nn]
  | .incPair p => [0b00#2 ++ p.code ++ 0b0011#4]
  | .decPair p => [0b00#2 ++ p.code ++ 0b1011#4]
  | .incReg r => [0b00#2 ++ r.code ++ 0b100#3]
  | .incMemHl => [0x34]
  | .decReg r => [0b00#2 ++ r.code ++ 0b101#3]
  | .decMemHl => [0x35]
  | .ldRegN r n => [0b00#2 ++ r.code ++ 0b110#3, n]
  | .ldMemHlN n => [0x36, n]
  | .rlca => [0x07]
  | .rrca => [0x0F]
  | .rla => [0x17]
  | .rra => [0x1F]
  | .daa => [0x27]
  | .cpl => [0x2F]
  | .scf => [0x37]
  | .ccf => [0x3F]
  | .exAfAf => [0x08]
  | .djnz e => [0x10, e]
  | .jr e => [0x18, e]
  | .jrCond k e => [0b001#3 ++ k.code ++ 0b000#3, e]
  | .ldRegReg r src => [0b01#2 ++ r.code ++ src.code]
  | .ldRegMemHl r => [0b01#2 ++ r.code ++ 0b110#3]
  | .ldMemHlReg r => [0b01110#5 ++ r.code]
  | .halt => [0x76]
  | .addReg src => [0b10000#5 ++ src.code]
  | .addMemHl => [0x86]
  | .addImm n => [0xC6, n]
  | .adcReg src => [0b10001#5 ++ src.code]
  | .adcMemHl => [0x8E]
  | .adcImm n => [0xCE, n]
  | .subReg src => [0b10010#5 ++ src.code]
  | .subMemHl => [0x96]
  | .subImm n => [0xD6, n]
  | .sbcReg src => [0b10011#5 ++ src.code]
  | .sbcMemHl => [0x9E]
  | .sbcImm n => [0xDE, n]
  | .andReg src => [0b10100#5 ++ src.code]
  | .andMemHl => [0xA6]
  | .andImm n => [0xE6, n]
  | .xorReg src => [0b10101#5 ++ src.code]
  | .xorMemHl => [0xAE]
  | .xorImm n => [0xEE, n]
  | .orReg src => [0b10110#5 ++ src.code]
  | .orMemHl => [0xB6]
  | .orImm n => [0xF6, n]
  | .cpReg src => [0b10111#5 ++ src.code]
  | .cpMemHl => [0xBE]
  | .cpImm n => [0xFE, n]
  | .retCond cc => [0b11#2 ++ cc.code ++ 0b000#3]
  | .popPair q => [0b11#2 ++ q.code ++ 0b0001#4]
  | .ret => [0xC9]
  | .exx => [0xD9]
  | .jpHl => [0xE9]
  | .ldSpHl => [0xF9]
  | .jpCond cc nn => [0b11#2 ++ cc.code ++ 0b010#3, lo8 nn, hi8 nn]
  | .jp nn => [0xC3, lo8 nn, hi8 nn]
  | .outImmA n => [0xD3, n]
  | .inAImm n => [0xDB, n]
  | .exMemSpHl => [0xE3]
  | .exDeHl => [0xEB]
  | .di => [0xF3]
  | .ei => [0xFB]
  | .callCond cc nn => [0b11#2 ++ cc.code ++ 0b100#3, lo8 nn, hi8 nn]
  | .pushPair q => [0b11#2 ++ q.code ++ 0b0101#4]
  | .call nn => [0xCD, lo8 nn, hi8 nn]
  | .rst t => [0b11#2 ++ code3 t ++ 0b111#3]
  | .rlcReg src => [0xCB, 0b00000#5 ++ src.code]
  | .rlcMemHl => [0xCB, 0x06]
  | .rrcReg src => [0xCB, 0b00001#5 ++ src.code]
  | .rrcMemHl => [0xCB, 0x0E]
  | .rlReg src => [0xCB, 0b00010#5 ++ src.code]
  | .rlMemHl => [0xCB, 0x16]
  | .rrReg src => [0xCB, 0b00011#5 ++ src.code]
  | .rrMemHl => [0xCB, 0x1E]
  | .slaReg src => [0xCB, 0b00100#5 ++ src.code]
  | .slaMemHl => [0xCB, 0x26]
  | .sraReg src => [0xCB, 0b00101#5 ++ src.code]
  | .sraMemHl => [0xCB, 0x2E]
  | .srlReg src => [0xCB, 0b00111#5 ++ src.code]
  | .srlMemHl => [0xCB, 0x3E]
  | .bitReg b src => [0xCB, 0b01#2 ++ code3 b ++ src.code]
  | .bitMemHl b => [0xCB, 0b01#2 ++ code3 b ++ 0b110#3]
  | .resReg b src => [0xCB, 0b10#2 ++ code3 b ++ src.code]
  | .resMemHl b => [0xCB, 0b10#2 ++ code3 b ++ 0b110#3]
  | .setReg b src => [0xCB, 0b11#2 ++ code3 b ++ src.code]
  | .setMemHl b => [0xCB, 0b11#2 ++ code3 b ++ 0b110#3]
  | .inRegC r => [0xED, 0b01#2 ++ r.code ++ 0b000#3]
  | .outCReg r => [0xED, 0b01#2 ++ r.code ++ 0b001#3]
  | .sbcHlPair p => [0xED, 0b01#2 ++ p.code ++ 0b0010#4]
  | .adcHlPair p => [0xED, 0b01#2 ++ p.code ++ 0b1010#4]
  | .ldMemNnPair nn p => [0xED, 0b01#2 ++ p.code ++ 0b0011#4, lo8 nn, hi8 nn]
  | .ldPairMemNn p nn => [0xED, 0b01#2 ++ p.code ++ 0b1011#4, lo8 nn, hi8 nn]
  | .neg => [0xED, 0x44]
  | .retn => [0xED, 0x45]
  | .reti => [0xED, 0x4D]
  | .im0 => [0xED, 0x46]
  | .im1 => [0xED, 0x56]
  | .im2 => [0xED, 0x5E]
  | .ldIA => [0xED, 0x47]
  | .ldRA => [0xED, 0x4F]
  | .ldAI => [0xED, 0x57]
  | .ldAR => [0xED, 0x5F]
  | .rrd => [0xED, 0x67]
  | .rld => [0xED, 0x6F]
  | .ldi => [0xED, 0xA0]
  | .cpi => [0xED, 0xA1]
  | .ini => [0xED, 0xA2]
  | .outi => [0xED, 0xA3]
  | .ldd => [0xED, 0xA8]
  | .cpd => [0xED, 0xA9]
  | .ind => [0xED, 0xAA]
  | .outd => [0xED, 0xAB]
  | .ldir => [0xED, 0xB0]
  | .cpir => [0xED, 0xB1]
  | .inir => [0xED, 0xB2]
  | .otir => [0xED, 0xB3]
  | .lddr => [0xED, 0xB8]
  | .cpdr => [0xED, 0xB9]
  | .indr => [0xED, 0xBA]
  | .otdr => [0xED, 0xBB]
  | .addIxPair p => [0xDD, 0b00#2 ++ p.code ++ 0b1001#4]
  | .ldIxNn nn => [0xDD, 0x21, lo8 nn, hi8 nn]
  | .ldMemNnIx nn => [0xDD, 0x22, lo8 nn, hi8 nn]
  | .incIx => [0xDD, 0x23]
  | .ldIxMemNn nn => [0xDD, 0x2A, lo8 nn, hi8 nn]
  | .decIx => [0xDD, 0x2B]
  | .incMemIx d => [0xDD, 0x34, d]
  | .decMemIx d => [0xDD, 0x35, d]
  | .ldMemIxN d n => [0xDD, 0x36, d, n]
  | .ldRegMemIx r d => [0xDD, 0b01#2 ++ r.code ++ 0b110#3, d]
  | .ldMemIxReg d r => [0xDD, 0b01110#5 ++ r.code, d]
  | .addMemIx d => [0xDD, 0x86, d]
  | .adcMemIx d => [0xDD, 0x8E, d]
  | .subMemIx d => [0xDD, 0x96, d]
  | .sbcMemIx d => [0xDD, 0x9E, d]
  | .andMemIx d => [0xDD, 0xA6, d]
  | .xorMemIx d => [0xDD, 0xAE, d]
  | .orMemIx d => [0xDD, 0xB6, d]
  | .cpMemIx d => [0xDD, 0xBE, d]
  | .popIx => [0xDD, 0xE1]
  | .exMemSpIx => [0xDD, 0xE3]
  | .pushIx => [0xDD, 0xE5]
  | .jpIx => [0xDD, 0xE9]
  | .ldSpIx => [0xDD, 0xF9]
  | .rlcMemIx d => [0xDD, 0xCB, d, 0x06]
  | .rrcMemIx d => [0xDD, 0xCB, d, 0x0E]
  | .rlMemIx d => [0xDD, 0xCB, d, 0x16]
  | .rrMemIx d => [0xDD, 0xCB, d, 0x1E]
  | .slaMemIx d => [0xDD, 0xCB, d, 0x26]
  | .sraMemIx d => [0xDD, 0xCB, d, 0x2E]
  | .srlMemIx d => [0xDD, 0xCB, d, 0x3E]
  | .bitMemIx b d => [0xDD, 0xCB, d, 0b01#2 ++ code3 b ++ 0b110#3]
  | .resMemIx b d => [0xDD, 0xCB, d, 0b10#2 ++ code3 b ++ 0b110#3]
  | .setMemIx b d => [0xDD, 0xCB, d, 0b11#2 ++ code3 b ++ 0b110#3]
  | .addIyPair p => [0xFD, 0b00#2 ++ p.code ++ 0b1001#4]
  | .ldIyNn nn => [0xFD, 0x21, lo8 nn, hi8 nn]
  | .ldMemNnIy nn => [0xFD, 0x22, lo8 nn, hi8 nn]
  | .incIy => [0xFD, 0x23]
  | .ldIyMemNn nn => [0xFD, 0x2A, lo8 nn, hi8 nn]
  | .decIy => [0xFD, 0x2B]
  | .incMemIy d => [0xFD, 0x34, d]
  | .decMemIy d => [0xFD, 0x35, d]
  | .ldMemIyN d n => [0xFD, 0x36, d, n]
  | .ldRegMemIy r d => [0xFD, 0b01#2 ++ r.code ++ 0b110#3, d]
  | .ldMemIyReg d r => [0xFD, 0b01110#5 ++ r.code, d]
  | .addMemIy d => [0xFD, 0x86, d]
  | .adcMemIy d => [0xFD, 0x8E, d]
  | .subMemIy d => [0xFD, 0x96, d]
  | .sbcMemIy d => [0xFD, 0x9E, d]
  | .andMemIy d => [0xFD, 0xA6, d]
  | .xorMemIy d => [0xFD, 0xAE, d]
  | .orMemIy d => [0xFD, 0xB6, d]
  | .cpMemIy d => [0xFD, 0xBE, d]
  | .popIy => [0xFD, 0xE1]
  | .exMemSpIy => [0xFD, 0xE3]
  | .pushIy => [0xFD, 0xE5]
  | .jpIy => [0xFD, 0xE9]
  | .ldSpIy => [0xFD, 0xF9]
  | .rlcMemIy d => [0xFD, 0xCB, d, 0x06]
  | .rrcMemIy d => [0xFD, 0xCB, d, 0x0E]
  | .rlMemIy d => [0xFD, 0xCB, d, 0x16]
  | .rrMemIy d => [0xFD, 0xCB, d, 0x1E]
  | .slaMemIy d => [0xFD, 0xCB, d, 0x26]
  | .sraMemIy d => [0xFD, 0xCB, d, 0x2E]
  | .srlMemIy d => [0xFD, 0xCB, d, 0x3E]
  | .bitMemIy b d => [0xFD, 0xCB, d, 0b01#2 ++ code3 b ++ 0b110#3]
  | .resMemIy b d => [0xFD, 0xCB, d, 0b10#2 ++ code3 b ++ 0b110#3]
  | .setMemIy b d => [0xFD, 0xCB, d, 0b11#2 ++ code3 b ++ 0b110#3]

end Sys2Proof
end

