-- ==== Sys2Proof/Config.lean ====
section
/-! DEFINITION. What an implementation or the environment fixes and the spec leaves open: the free values, and the OPEN
parameters of R7. Every constant here is opaque, so that nothing can be proved of its value. -/

namespace Sys2Proof.Config

/-- The free byte of the `n`-th draw: undefined flags are read off its bits (R13 `any1()`, `any8()`; D17). -/
opaque freeByte : Nat → Byte

/-- The free word of the `n`-th draw: the PC after a fault (R501). -/
opaque freeWord : Nat → Word

/-- The byte the environment answers to an IORead that is the `n`-th draw and for which it has nothing lined up (R111). -/
opaque ioByte : Nat → Byte

/-- Whether the per-frame callback calls PowerOff when its decision is the `n`-th draw (R551). -/
opaque callbackPowersOff : Nat → Bool

/-- FRAME_CYCLES less 1. -/
opaque frameCyclesLessOne : Nat

/-- FRAME_CYCLES, the T-states per display frame: an OPEN parameter, a positive natural number (R7, D13). -/
def frameCycles : Nat := frameCyclesLessOne + 1

/-- DIAG_LEN beyond the least that R503 asks for. -/
opaque diagSpare : Nat

/-- DIAG_LEN, the capacity of the diagnostic text buffer: an OPEN parameter "at least large enough for the pc and four
bytes" (R503), which are 4 + 4 * 2 digits and the closing NUL. -/
def diagLen : Nat := diagSpare + 13

/-- The wording of the diagnostic text, open but for the digits it must contain (R503, D23). -/
opaque diagWording : Word → List Byte → List Byte

end Sys2Proof.Config
end

