-- ==== Sys2Proof/Machine/Marks.lean ====
section
/-! DEFINITION. The marks of R601, "this register holds no value": what carries one, the marks after CpuReset, and the setting
of UNWRITTEN_READ. Marks are held in one canonical form, so that equal marks are equal data. -/

namespace Sys2Proof

/-- The setting of UNWRITTEN_READ: what a read of a register that holds no value does (R7, R601). -/
inductive UnwrittenRead
  /-- The step is the model fault `UnwrittenRead(register)`. -/
  | fault
  /-- The register's value is the one drawn at CpuReset. -/
  | draw
  deriving DecidableEq, Repr

/-- The flags of F by name (R26). -/
inductive FlagName | s | z | y | h | x | pv | n | c
  deriving DecidableEq, Repr

/-- What carries a mark of its own: each 8-bit register, each bit of F, IX, IY, SP (R601). -/
inductive Loc
  | reg (r : Reg8)
  | flag (k : FlagName)
  | ix
  | iy
  | sp
  deriving DecidableEq, Repr

/-- What holds no value: among the registers, and among the shadow registers. -/
structure Marks where
  unwritten : List Loc
  shadow : List Loc
  deriving DecidableEq, Repr

/-- Every bit of F. -/
def flagLocs : List Loc := [.flag .s, .flag .z, .flag .y, .flag .h, .flag .x, .flag .pv, .flag .n, .flag .c]

/-- Every bit of F but C. -/
def flagLocsButC : List Loc := [.flag .s, .flag .z, .flag .y, .flag .h, .flag .x, .flag .pv, .flag .n]

/-- H, N, C, Y, X. -/
def carryFlagLocs : List Loc := [.flag .h, .flag .n, .flag .c, .flag .y, .flag .x]

/-- The six registers that EXX exchanges. -/
def exxLocs : List Loc := [.reg .b, .reg .c, .reg .d, .reg .e, .reg .h, .reg .l]

/-- A and every bit of F, which EX AF,AF' exchanges. -/
def afLocs : List Loc := .reg .a :: flagLocs

/-- All that carries a mark in the shadow file. -/
def shadowLocs : List Loc := afLocs ++ exxLocs

/-- All that carries a mark outside the shadow file. -/
def allLocs : List Loc := shadowLocs ++ [.ix, .iy, .sp]

/-- The marks of exactly these, in the canonical form: the order of `allLocs`. -/
def Marks.of (unwritten shadow : Loc → Bool) : Marks where
  unwritten := allLocs.filter unwritten
  shadow := shadowLocs.filter shadow

/-- The canonical form holds. -/
def Marks.wf (m : Marks) : Bool := decide (m = .of (fun l => decide (l ∈ m.unwritten)) fun l => decide (l ∈ m.shadow))

/-- The marks after CpuReset: nothing that R600 lists holds a value. -/
def Marks.reset : Marks := ⟨allLocs, shadowLocs⟩

end Sys2Proof
end

