-- ==== Sys2Proof/Machine/State.lean ====
section
/-! DEFINITION. The state of the CORE as plain data (spec/10_state.md), the reasons a step can stop, and the state after
reset (R602). -/

namespace Sys2Proof.Machine

/-- One register file: A, F and the three pairs' halves (R20). The shadow file is a second one (R22). -/
structure RegFile where
  a : Byte
  f : Byte
  b : Byte
  c : Byte
  d : Byte
  e : Byte
  h : Byte
  l : Byte
  deriving DecidableEq, Repr

/-- IM, the interrupt mode; the value 3 is unreachable and the mode is typed as three values (R31). -/
inductive IntMode | im0 | im1 | im2
  deriving DecidableEq, Repr

/-- `run_state` (R64). -/
inductive RunState | idle | running
  deriving DecidableEq, Repr

/-- Bytes by address, strictly rising, none equal to `Memory.blank`: the one canonical form (see `Memory.wf`). -/
abbrev Memory := List Host.Cell

/-- What an unlisted address reads as: the fill of system RAM at power-on (R74). -/
def Memory.blank : Byte := 0xFF

/-- Addresses rise strictly, all of them are at least `low`, and no entry is blank. -/
def Memory.wfFrom (low : Nat) : Memory → Bool
  | [] => true
  | (a, v) :: rest => decide (low ≤ a) && decide (v ≠ Memory.blank) && Memory.wfFrom (a + 1) rest

/-- The canonical form holds. -/
def Memory.wf (m : Memory) : Bool := Memory.wfFrom 0 m

/-- `map_slots[0..2]`, each a 6-bit index into `rom_banks` (R51). -/
structure MapSlots where
  slot0 : BitVec 6
  slot1 : BitVec 6
  slot2 : BitVec 6
  deriving DecidableEq, Repr

/-- The mounted cartridge image: its number of 16 KiB banks and its bytes by offset into the image (R53, R72). -/
structure Cart where
  banks : Nat
  bytes : Memory
  deriving DecidableEq, Repr

/-- The fault record `rec = (pc, opcode)` (R61, R502). -/
structure FaultRecord where
  pc : Word
  opcode : List Byte
  deriving DecidableEq, Repr

/-- What the CORE hands to the environment (R112, R560). -/
inductive Event
  /-- An IORead at a port. -/
  | ioRead (port : Word)
  /-- An IOWrite of a byte at a port. -/
  | ioWrite (port : Word) (v : Byte)
  /-- The acknowledge of a maskable interrupt, with the bus byte used. -/
  | intAck (b : Byte)
  /-- The T-states handed to the peripherals after a step. -/
  | tick (n : Nat)
  /-- The per-frame callback with its handle. -/
  | frame (callback : Nat)
  deriving DecidableEq, Repr

/-- The state of the CORE, with the environment's inputs and outputs held as data. -/
structure State where
  /-- A, F, B, C, D, E, H, L (R20). -/
  regs : RegFile
  /-- A', F', B', C', D', E', H', L' (R22). -/
  shadow : RegFile
  /-- IX (R23). -/
  ix : Word
  /-- IY (R23). -/
  iy : Word
  /-- SP (R24). -/
  sp : Word
  /-- PC (R25). -/
  pc : Word
  /-- I, the interrupt-vector register (R28). -/
  i : Byte
  /-- R, the memory-refresh register (R29). -/
  r : Byte
  /-- IFF1 (R30). -/
  iff1 : Bool
  /-- IFF2 (R30). -/
  iff2 : Bool
  /-- IM (R31). -/
  im : IntMode
  /-- `halted` (R32). -/
  halted : Bool
  /-- `ei_shadow` (R33). -/
  eiShadow : Bool
  /-- `nmi_pending` (R34). -/
  nmiPending : Bool
  /-- `cycles`, the T-states since PowerOn (R36). -/
  cycles : Nat
  /-- Which registers hold no value: the marks of R601, moved on by every step. -/
  marks : Marks
  /-- `rom_banks`: 64 entries, each unset or a bank number of the mounted image (R50). -/
  romBanks : Vector (Option (Fin 64)) 64
  /-- `map_slots` (R51). -/
  slots : MapSlots
  /-- `system_ram`, by RAM index 0 to 8191 (R52). -/
  ram : Memory
  /-- The mounted cartridge image, which the CORE only reads (R53). -/
  cart : Cart
  /-- `powered` (R60). -/
  powered : Bool
  /-- `fault` (R61). -/
  fault : Option FaultRecord
  /-- The diagnostic text buffer, without its closing NUL; empty when cleared (R61, R503). -/
  diag : List Byte
  /-- `frame_acc` (R62). -/
  frameAcc : Nat
  /-- `callback`: the host's name for the attached function (R63). -/
  callback : Option Nat
  /-- `display_buffer`: the host's name for the attached buffer (R63). -/
  displayBuffer : Option Nat
  /-- `run_state` (R64). -/
  runState : RunState
  /-- `int_line`, the environment's level, sampled at each boundary (R511, R561). -/
  intLine : Bool
  /-- The byte the environment puts on the bus at an acknowledge, INT_BUS_BYTE (R510). -/
  busByte : Byte
  /-- The model's own: the bytes the environment has lined up for the next IORead calls. -/
  ioAnswers : List Byte
  /-- The model's own: the decisions the callback has lined up; true means that it calls PowerOff. -/
  callbackOff : List Bool
  /-- The model's own: for the next readings of the power flag at frame boundaries, whether an asynchronous PowerOff lands
  after the reading before it; none lined up, none lands (R545). -/
  asyncOff : List Bool
  /-- The model's own: what the CORE handed to the environment so far, oldest first. -/
  events : List Event
  /-- The model's own: how many free values have been used. -/
  draws : Nat
  deriving DecidableEq, Repr

/-- Which check raised the fatal fault (R500). -/
inductive FaultCause
  /-- The bytes at PC begin no instruction (R121, R136). -/
  | decode
  /-- INT accepted in mode 0 with a bus byte that is no RST (R512). -/
  | busByte
  deriving DecidableEq, Repr

/-- Why the machine stops: the CORE has exactly one exception (R500). -/
inductive Fault
  /-- The one exception, code 1 `UnsupportedOpcode`, with its record (R500, R502). Raised by decoding and by mode-0
  acceptance, where the spec raises it: exact, neither safe nor unsafe. -/
  | unsupportedOpcode (cause : FaultCause) (record : FaultRecord)
  deriving DecidableEq, Repr

/-- The host actions that are defined only while `run_state` is idle (R562, R563). -/
inductive IdleAction | mount | attachDisplay | attachCallback | powerOn | run
  deriving DecidableEq, Repr

/-- Why the model gives no meaning. -/
inductive Refusal
  /-- Raised by an arm of `exec` whose instruction has no meaning yet; no arm does. Safe. -/
  | notModelled (mnemonic : String)
  /-- Raised by a host action that R563 gives no move while `run_state` is running. Safe: nothing is claimed of it. -/
  | hostActionWhileRunning (action : IdleAction)
  deriving DecidableEq, Repr

/-- A register file of zeros. DESIGN CHOICE (log 1), unsafe: the spec gives these registers no value at reset (R601). -/
def RegFile.zero : RegFile := ⟨0, 0, 0, 0, 0, 0, 0, 0⟩

/-- The machine right after PowerOn of a session with no cartridge mounted (R602, R603): PC, IFF1, IFF2, IM, I, R, the three
hidden bits and the counters as R600 sets them, windows 0, 1, 2 and RAM all 0xFF (R74), powered and idle (R540). Registers to
which the spec gives no value hold zeros (log 1) and carry the marks of R601. -/
def State.reset : State where
  regs := .zero
  shadow := .zero
  ix := 0
  iy := 0
  sp := 0
  pc := 0x0000
  i := 0x00
  r := 0x00
  iff1 := false
  iff2 := false
  im := .im0
  halted := false
  eiShadow := false
  nmiPending := false
  cycles := 0
  marks := .reset
  romBanks := Vector.replicate 64 none
  slots := ⟨0, 1, 2⟩
  ram := []
  cart := ⟨0, []⟩
  powered := true
  fault := none
  diag := []
  frameAcc := 0
  callback := none
  displayBuffer := none
  runState := .idle
  intLine := false
  busByte := 0xFF
  ioAnswers := []
  callbackOff := []
  asyncOff := []
  events := []
  draws := 0

end Sys2Proof.Machine
end

