-- ==== Sys2Proof/Machine/Ops.lean ====
section
/-! DEFINITION. The named operations over memory, stack, ports and control state, taking an interrupt, and returning from
one. -/

namespace Sys2Proof.Machine

/-! ## Memory in its canonical form -/

/-- The byte at an address; an unlisted address reads `Memory.blank`. -/
def Memory.read (m : Memory) (a : Nat) : Byte :=
  match m with
  | [] => Memory.blank
  | (k, v) :: rest => if k = a then v else Memory.read rest a

/-- The entry for `a` put in front of `rest`, or nothing where the value is blank. -/
def Memory.put (a : Nat) (v : Byte) (rest : Memory) : Memory :=
  if v = Memory.blank then rest else (a, v) :: rest

/-- The entry for `a` put in its place among rising addresses. -/
def Memory.insert (m : Memory) (a : Nat) (v : Byte) : Memory :=
  match m with
  | [] => Memory.put a v []
  | (k, w) :: rest => if a < k then Memory.put a v ((k, w) :: rest) else (k, w) :: Memory.insert rest a v

/-- The memory without an entry for `a`. -/
def Memory.without (m : Memory) (a : Nat) : Memory := m.filter fun cell => decide (cell.1 ≠ a)

/-- The memory with `v` at `a`, in canonical form again. -/
def Memory.write (m : Memory) (a : Nat) (v : Byte) : Memory := (m.without a).insert a v

/-- The canonical form of any list of bytes by address; of two entries for one address the later counts. -/
def Memory.ofCells (cells : List Host.Cell) : Memory := cells.foldl (fun m cell => m.write cell.1 cell.2) []

/-! ## The Memory Unit: decode, reads, writes (20_memory.md) -/

/-- BANK_SIZE (R7). -/
def bankSize : Nat := 16384

/-- RAM_SIZE (R7). -/
def ramSize : Nat := 8192

/-- OPEN_BUS (R7, R82). -/
def openBus : Byte := 0xFF

/-- What an address resolves to (R77). -/
inductive Target
  | rom (bank : Option (Fin 64)) (offset : Nat)
  | ram (index : Nat)
  deriving DecidableEq, Repr

/-- The entry of `rom_banks` a 6-bit index names. -/
def State.romEntry (s : State) (k : BitVec 6) : Option (Fin 64) := s.romBanks.get k.toFin

/-- The bank-select decoder and address multiplexer (R76, R77). -/
def State.resolve (s : State) (addr : Word) : Target :=
  if addr.toNat ≤ 0x03FF then .rom (s.romEntry 0) addr.toNat
  else if addr.toNat ≤ 0x3FFF then .rom (s.romEntry s.slots.slot0) addr.toNat
  else if addr.toNat ≤ 0x7FFF then .rom (s.romEntry s.slots.slot1) (addr.toNat - 0x4000)
  else if addr.toNat ≤ 0xBFFF then .rom (s.romEntry s.slots.slot2) (addr.toNat - 0x8000)
  else .ram (addr.toNat % ramSize)

/-- The byte a target holds (R80, R82). -/
def State.readTarget (s : State) : Target → Byte
  | .ram index => s.ram.read index
  | .rom (some b) offset => s.cart.bytes.read (b.val * bankSize + offset)
  | .rom none _ => openBus

/-- ReadByte (R80). -/
def State.readByte (s : State) (addr : Word) : Byte := s.readTarget (s.resolve addr)

/-- ReadWord: little-endian, the second address modulo 65536 (R84). -/
def State.readWord (s : State) (addr : Word) : Word := join (s.readByte (addr + 1)) (s.readByte addr)

/-- ReadDword, which no instruction uses (R85). -/
def State.readDword (s : State) (addr : Word) : BitVec 32 :=
  s.readWord (addr + 2) ++ s.readWord addr

/-- WriteByte accepts the addresses from 0xC000 on (R86, R87). -/
def accepts (addr : Word) : Bool := decide (0xC000 ≤ addr.toNat)

/-- System RAM after a write at an address (R86, R87). -/
def ramAfter (ram : Memory) (addr : Word) (v : Byte) : Memory :=
  if accepts addr then ram.write (addr.toNat % ramSize) v else ram

/-- The windows after a write at an address: 0xFFFD, 0xFFFE and 0xFFFF select windows 0, 1 and 2 (R88, C2). -/
def MapSlots.control (slots : MapSlots) (addr : Word) (v : Byte) : MapSlots where
  slot0 := if addr = 0xFFFD then v.extractLsb' 0 6 else slots.slot0
  slot1 := if addr = 0xFFFE then v.extractLsb' 0 6 else slots.slot1
  slot2 := if addr = 0xFFFF then v.extractLsb' 0 6 else slots.slot2

/-- WriteByte with its result ignored, as the CPU ignores it (R92). -/
def State.store (s : State) (addr : Word) (v : Byte) : State :=
  { s with ram := ramAfter s.ram addr v, slots := s.slots.control addr v }

/-- WriteByte: the state and whether the write was accepted (R86, R87). -/
def State.writeByte (s : State) (addr : Word) (v : Byte) : State × Bool := (s.store addr v, accepts addr)

/-- WriteWord with its result ignored: low byte first, both bytes always written (R90). -/
def State.storeWord (s : State) (addr w : Word) : State := (s.store addr (lo8 w)).store (addr + 1) (hi8 w)

/-- WriteWord: the state and whether both bytes were accepted (R90). -/
def State.writeWord (s : State) (addr w : Word) : State × Bool :=
  (s.storeWord addr w, accepts addr && accepts (addr + 1))

/-! ## The stack (R430, R431) -/

/-- `Push16(w)`: the high byte first, at SP - 1, then the low byte at SP - 2 (R430). -/
def State.push16 (s : State) (w : Word) : State :=
  { (s.store (s.sp - 1) (hi8 w)).store (s.sp - 2) (lo8 w) with sp := s.sp - 2 }

/-- The word `Pop16()` returns: the low byte at SP, the high byte at SP + 1 (R431). -/
def State.stackTop (s : State) : Word := join (s.readByte (s.sp + 1)) (s.readByte s.sp)

/-- SP after `Pop16()` (R431). -/
def State.popped (s : State) : State := { s with sp := s.sp + 2 }

/-! ## Control state -/

/-- `PC <- target`. -/
def State.jump (s : State) (target : Word) : State := { s with pc := target }

/-- `RInc()` (R123). -/
def State.rInc (s : State) : State := { s with r := refresh s.r }

/-- The step's T-states added to `cycles` (R36, R530). -/
def State.spend (s : State) (n : Nat) : State := { s with cycles := s.cycles + n }

/-- An instruction's end: its T-states are spent and the state is the next one. -/
def finish (n : Nat) (s : State) : Host.Outcome State Fault Refusal := .next (s.spend n)

/-- The free byte the step draws next (R13). -/
def State.freeByte (s : State) : Byte := Config.freeByte s.draws

/-- One free value used. -/
def State.drew (s : State) : State := { s with draws := s.draws + 1 }

/-! ## The port space (R110 to R112) -/

/-- The byte the environment answers to the next IORead: the one it has lined up, else a free byte (R111). -/
def State.ioByte (s : State) : Byte := s.ioAnswers.head?.getD (Config.ioByte s.draws)

/-- The state after an IORead at `port` (R111): no CORE state changes but the model's own record of inputs and outputs. -/
def State.ioRead (s : State) (port : Word) : State :=
  { s with ioAnswers := s.ioAnswers.tail, draws := s.draws + 1, events := s.events ++ [.ioRead port] }

/-- `IOWrite(port, v)`: an event, with no effect on CORE state (R112). -/
def State.ioWrite (s : State) (port : Word) (v : Byte) : State := { s with events := s.events ++ [.ioWrite port v] }

/-! ## Taking an interrupt and returning from one (R510 to R519) -/

/-- What the acceptance of an NMI and of an INT share: `halted` and `ei_shadow` cleared, one R increment, IFF1 cleared and
IFF2 set as given, PC pushed, then PC at the vector, which is read after the push (R510, R511, R514, R515). -/
def State.enterInterrupt (s : State) (iff2 : Bool) (vector : State → Word) (n : Nat) : State :=
  let entered := { s with halted := false, eiShadow := false, r := refresh s.r, iff1 := false, iff2 := iff2 }
  let pushed := entered.push16 s.pc
  (pushed.jump (vector pushed)).spend n

/-- NMI acceptance: 0x0066, IFF2 kept (R515). -/
def State.acceptNmi (s : State) : State :=
  { s with nmiPending := false }.enterInterrupt s.iff2 (fun _ => 0x0066) 11

/-- `IntAck(b)`, the event that ends a maskable acceptance (R511, R560). -/
def State.intAck (s : State) : State := { s with events := s.events ++ [.intAck s.busByte] }

/-- The bus byte is a restart: `b & 0xC7 = 0xC7` (R512). -/
def isRestart (b : Byte) : Bool := b &&& 0xC7 == 0xC7

/-- Maskable acceptance in each mode (R511 to R514). -/
def State.acceptInt (s : State) : Host.Outcome State Fault Refusal :=
  match s.im with
  | .im0 =>
    if isRestart s.busByte then
      .next (s.enterInterrupt false (fun _ => zext16 (s.busByte &&& 0x38)) 13).intAck
    else .fault (.unsupportedOpcode .busByte ⟨s.pc, [s.busByte]⟩)
  | .im1 => .next (s.enterInterrupt false (fun _ => 0x0038) 13).intAck
  | .im2 => .next (s.enterInterrupt false (fun pushed => pushed.readWord (join s.i s.busByte)) 19).intAck

/-- The INT condition at a boundary with no NMI pending (R511). -/
def State.intCondition (s : State) : Bool := s.intLine && s.iff1 && !s.eiShadow

/-- RETI and RETN: PC popped, IFF1 restored from IFF2 (R404, R405). -/
def State.returnFromInterrupt (s : State) : State :=
  let target := s.stackTop
  { s.popped.jump target with iff1 := s.iff2 }

end Sys2Proof.Machine
end

