-- ==== Sys2Proof/Machine/Operands.lean ====
section
/-! DEFINITION. Every operand form: registers, pairs, index registers, effective addresses (R20 to R24, R100, R122 to
R127). -/

namespace Sys2Proof.Machine

/-- `reg8[r]` in a register file (R124). -/
def RegFile.get (f : RegFile) : Reg8 → Byte
  | .b => f.b
  | .c => f.c
  | .d => f.d
  | .e => f.e
  | .h => f.h
  | .l => f.l
  | .a => f.a

/-- `reg8[r] <- v` in a register file (R124). -/
def RegFile.set (f : RegFile) (r : Reg8) (v : Byte) : RegFile :=
  match r with
  | .b => { f with b := v }
  | .c => { f with c := v }
  | .d => { f with d := v }
  | .e => { f with e := v }
  | .h => { f with h := v }
  | .l => { f with l := v }
  | .a => { f with a := v }

def State.reg8 (s : State) (r : Reg8) : Byte := s.regs.get r

def State.setReg8 (s : State) (r : Reg8) (v : Byte) : State := { s with regs := s.regs.set r v }

/-- `AF = {A, F}` and the other pairs, the first-named register in bits 15:8 (R21). -/
def State.af (s : State) : Word := join s.regs.a s.regs.f

def State.bc (s : State) : Word := join s.regs.b s.regs.c

def State.de (s : State) : Word := join s.regs.d s.regs.e

def State.hl (s : State) : Word := join s.regs.h s.regs.l

/-- Writing a pair writes both halves (R21). -/
def State.setA (s : State) (v : Byte) : State := { s with regs := { s.regs with a := v } }

def State.setB (s : State) (v : Byte) : State := { s with regs := { s.regs with b := v } }

def State.setAf (s : State) (w : Word) : State := { s with regs := { s.regs with a := hi8 w, f := lo8 w } }

def State.setBc (s : State) (w : Word) : State := { s with regs := { s.regs with b := hi8 w, c := lo8 w } }

def State.setDe (s : State) (w : Word) : State := { s with regs := { s.regs with d := hi8 w, e := lo8 w } }

def State.setHl (s : State) (w : Word) : State := { s with regs := { s.regs with h := hi8 w, l := lo8 w } }

def State.setSp (s : State) (w : Word) : State := { s with sp := w }

/-- `rp[p]` (R124). -/
def State.pair (s : State) : Pair → Word
  | .bc => s.bc
  | .de => s.de
  | .hl => s.hl
  | .sp => s.sp

def State.setPair (s : State) (p : Pair) (w : Word) : State :=
  match p with
  | .bc => s.setBc w
  | .de => s.setDe w
  | .hl => s.setHl w
  | .sp => s.setSp w

/-- `rp2[q]` (R124). -/
def State.stackPair (s : State) : StackPair → Word
  | .bc => s.bc
  | .de => s.de
  | .hl => s.hl
  | .af => s.af

def State.setStackPair (s : State) (q : StackPair) (w : Word) : State :=
  match q with
  | .bc => s.setBc w
  | .de => s.setDe w
  | .hl => s.setHl w
  | .af => s.setAf w

/-- XY: IX for a DD form, IY for an FD form (R127). -/
def State.index (s : State) : Index → Word
  | .ix => s.ix
  | .iy => s.iy

def State.setIndex (s : State) (x : Index) (w : Word) : State :=
  match x with
  | .ix => { s with ix := w }
  | .iy => { s with iy := w }

/-- `rp_ix[p]` (R124, R303). -/
def State.ixPair (s : State) : IxPair → Word
  | .bc => s.bc
  | .de => s.de
  | .ix => s.ix
  | .sp => s.sp

/-- `rp_iy[p]` (R124, R303). -/
def State.iyPair (s : State) : IyPair → Word
  | .bc => s.bc
  | .de => s.de
  | .iy => s.iy
  | .sp => s.sp

/-- The address of `(IX+d)` or `(IY+d)`: `XY + sext_16(d)` modulo 65536 (R100, R122). -/
def State.ea (s : State) (x : Index) (d : Byte) : Word := s.index x + sext16 d

/-- The target of a relative jump: PC is already past the instruction (R122, R421). -/
def State.relative (s : State) (e : Byte) : Word := s.pc + sext16 e

/-- The port `{A, n}` (R110). -/
def State.portA (s : State) (n : Byte) : Word := join s.regs.a n

end Sys2Proof.Machine
end

