-- ==== Sys2Proof/Machine/Flags.lean ====
section
/-! DEFINITION. The flag register's layout (R26), the conditions (R126) and every flag computation of the families. -/

namespace Sys2Proof.Machine

/-- The eight bits of F, bit 7 first (R26). -/
structure FlagBits where
  s : Bool
  z : Bool
  y : Bool
  h : Bool
  x : Bool
  pv : Bool
  n : Bool
  c : Bool
  deriving DecidableEq, Repr

/-- The flags a byte of F holds (R26). -/
def FlagBits.ofByte (f : Byte) : FlagBits where
  s := f.getLsbD 7
  z := f.getLsbD 6
  y := f.getLsbD 5
  h := f.getLsbD 4
  x := f.getLsbD 3
  pv := f.getLsbD 2
  n := f.getLsbD 1
  c := f.getLsbD 0

/-- The byte of F that holds the flags (R26). -/
def FlagBits.toByte (b : FlagBits) : Byte :=
  BitVec.ofBool b.s ++ BitVec.ofBool b.z ++ BitVec.ofBool b.y ++ BitVec.ofBool b.h ++
    BitVec.ofBool b.x ++ BitVec.ofBool b.pv ++ BitVec.ofBool b.n ++ BitVec.ofBool b.c

def State.flags (s : State) : FlagBits := .ofByte s.regs.f

def State.setFlags (s : State) (b : FlagBits) : State := { s with regs := { s.regs with f := b.toByte } }

/-- `cc(c)` (R126). -/
def State.cond (s : State) : Cond → Bool
  | .nz => !s.flags.z
  | .z => s.flags.z
  | .nc => !s.flags.c
  | .c => s.flags.c
  | .po => !s.flags.pv
  | .pe => s.flags.pv
  | .p => !s.flags.s
  | .m => s.flags.s

/-- `cc_jr(k)` (R126). -/
def State.jrCond (s : State) : JrCond → Bool
  | .nz => !s.flags.z
  | .z => s.flags.z
  | .nc => !s.flags.c
  | .c => s.flags.c

/-- `sz(res)` and `xy(res)`: S, Z, Y and X from a result (R14). -/
def FlagBits.ofResult (old : FlagBits) (res : Byte) : FlagBits :=
  { old with s := res.getLsbD 7, z := res == 0, y := res.getLsbD 5, x := res.getLsbD 3 }

/-- Y and X drawn: bits 5 and 3 of a free byte (R13, D17). -/
def FlagBits.drawYX (old : FlagBits) (free : Byte) : FlagBits :=
  { old with y := free.getLsbD 5, x := free.getLsbD 3 }

/-! ## The adders -/

/-- `add8(a, b, c)`: the result and all eight flags (R270). -/
def add8 (a b : Byte) (c : Bool) : Byte × FlagBits :=
  let t := a.toNat + b.toNat + bit c
  let res := BitVec.ofNat 8 t
  (res,
    { s := res.getLsbD 7, z := res == 0, y := res.getLsbD 5, x := res.getLsbD 3
      h := decide (a.toNat % 16 + b.toNat % 16 + bit c > 15)
      pv := (a.getLsbD 7 == b.getLsbD 7) && (res.getLsbD 7 != a.getLsbD 7)
      n := false
      c := decide (t > 255) })

/-- `sub8(a, b, c)`: the result and all eight flags (R271). -/
def sub8 (a b : Byte) (c : Bool) : Byte × FlagBits :=
  let t : Int := a.toNat - b.toNat - bit c
  let res := BitVec.ofInt 8 t
  (res,
    { s := res.getLsbD 7, z := res == 0, y := res.getLsbD 5, x := res.getLsbD 3
      h := decide ((a.toNat % 16 : Int) - (b.toNat % 16 : Int) - bit c < 0)
      pv := (a.getLsbD 7 != b.getLsbD 7) && (res.getLsbD 7 != a.getLsbD 7)
      n := true
      c := decide (t < 0) })

/-- The flags of AND, OR and XOR: H as given, P/V the parity, N and C clear (R255 to R257). -/
def logicFlags (res : Byte) (h : Bool) : FlagBits where
  s := res.getLsbD 7
  z := res == 0
  y := res.getLsbD 5
  h := h
  x := res.getLsbD 3
  pv := parity res
  n := false
  c := false

/-- The flags of INC from the old value `v`; C is kept (R259). -/
def incFlags (old : FlagBits) (v : Byte) : FlagBits :=
  { old.ofResult (v + 1) with h := v.toNat % 16 == 15, pv := v == 0x7F, n := false }

/-- The flags of DEC from the old value `v`; C is kept (R262). -/
def decFlags (old : FlagBits) (v : Byte) : FlagBits :=
  { old.ofResult (v - 1) with h := v.toNat % 16 == 0, pv := v == 0x80, n := true }

/-- DAA: the adjusted A and its flags (R265). -/
def daa (a : Byte) (old : FlagBits) : Byte × FlagBits :=
  let high := old.c || decide (a.toNat > 0x99)
  let low := old.h || decide (a.toNat % 16 > 9)
  let diff : Byte := (if high then 0x60 else 0) + (if low then 0x06 else 0)
  let res := if old.n then a - diff else a + diff
  let h := if old.n then old.h && decide (a.toNat % 16 < 6) else decide (a.toNat % 16 > 9)
  (res, { old.ofResult res with h := h, pv := parity res, c := high })

/-- ADD of two words: the result, and H, N, C, Y, X; S, Z, P/V are kept (R300, R303). -/
def add16 (a b : Word) (old : FlagBits) : Word × FlagBits :=
  let t := a.toNat + b.toNat
  let res := BitVec.ofNat 16 t
  (res,
    { old with
      h := decide (a.toNat % 4096 + b.toNat % 4096 > 0xFFF)
      n := false
      c := decide (t > 0xFFFF)
      y := res.getLsbD 13
      x := res.getLsbD 11 })

/-- ADC of two words: the result and all eight flags (R301). -/
def adc16 (a b : Word) (c : Bool) : Word × FlagBits :=
  let t := a.toNat + b.toNat + bit c
  let res := BitVec.ofNat 16 t
  (res,
    { s := res.getLsbD 15, z := res == 0, y := res.getLsbD 13, x := res.getLsbD 11
      h := decide (a.toNat % 4096 + b.toNat % 4096 + bit c > 0xFFF)
      pv := (a.getLsbD 15 == b.getLsbD 15) && (res.getLsbD 15 != a.getLsbD 15)
      n := false
      c := decide (t > 0xFFFF) })

/-- SBC of two words: the result and all eight flags (R302). -/
def sbc16 (a b : Word) (c : Bool) : Word × FlagBits :=
  let t : Int := a.toNat - b.toNat - bit c
  let res := BitVec.ofInt 16 t
  (res,
    { s := res.getLsbD 15, z := res == 0, y := res.getLsbD 13, x := res.getLsbD 11
      h := decide ((a.toNat % 4096 : Int) - (b.toNat % 4096 : Int) - bit c < 0)
      pv := (a.getLsbD 15 != b.getLsbD 15) && (res.getLsbD 15 != a.getLsbD 15)
      n := true
      c := decide (t < 0) })

/-! ## Rotates, shifts, bits -/

/-- A rotate's or shift's result and its carry-out. -/
abbrev Shifted := Byte × Bool

/-- RLC: `co <- m[7]; res <- {m[6:0], co}` (R325). -/
def rlc (m : Byte) (_ : Bool) : Shifted := (shiftInLow m (m.getLsbD 7), m.getLsbD 7)

/-- RL: `co <- m[7]; res <- {m[6:0], F.C}` (R326). -/
def rl (m : Byte) (c : Bool) : Shifted := (shiftInLow m c, m.getLsbD 7)

/-- RRC: `co <- m[0]; res <- {co, m[7:1]}` (R327). -/
def rrc (m : Byte) (_ : Bool) : Shifted := (shiftInHigh (m.getLsbD 0) m, m.getLsbD 0)

/-- RR: `co <- m[0]; res <- {F.C, m[7:1]}` (R328). -/
def rr (m : Byte) (c : Bool) : Shifted := (shiftInHigh c m, m.getLsbD 0)

/-- SLA: `co <- m[7]; res <- {m[6:0], 0}` (R329). -/
def sla (m : Byte) (_ : Bool) : Shifted := (shiftInLow m false, m.getLsbD 7)

/-- SRA: `co <- m[0]; res <- {m[7], m[7:1]}` (R330). -/
def sra (m : Byte) (_ : Bool) : Shifted := (shiftInHigh (m.getLsbD 7) m, m.getLsbD 0)

/-- SRL: `co <- m[0]; res <- {0, m[7:1]}` (R331). -/
def srl (m : Byte) (_ : Bool) : Shifted := (shiftInHigh false m, m.getLsbD 0)

/-- The eight flags of a CB rotate or shift (R324). -/
def shiftFlags (r : Shifted) : FlagBits := { logicFlags r.1 false with c := r.2 }

/-- The flags of RLCA, RRCA, RLA, RRA: S, Z and P/V are kept (R320). -/
def accShiftFlags (old : FlagBits) (r : Shifted) : FlagBits :=
  { old with c := r.2, h := false, n := false, y := r.1.getLsbD 5, x := r.1.getLsbD 3 }

/-- The flags of RLD, RRD and IN r,(C) from a byte; C is kept (R332, R333, R471). -/
def byteFlags (old : FlagBits) (v : Byte) : FlagBits := { logicFlags v false with c := old.c }

/-- The flags of LD A,I and LD A,R from the byte loaded and IFF2; C is kept (R214, R215). -/
def loadIrFlags (old : FlagBits) (v : Byte) (iff2 : Bool) : FlagBits :=
  { old.ofResult v with h := false, pv := iff2, n := false }

/-- The flags of BIT: Z and P/V from the tested bit, S only for a set bit 7, Y and X as given; C is kept (R350 to R352). -/
def bitFlags (old : FlagBits) (b : Nat) (v : Byte) (y x : Bool) : FlagBits :=
  { old with
    s := b == 7 && v.getLsbD b
    z := !v.getLsbD b
    y := y
    h := true
    x := x
    pv := !v.getLsbD b
    n := false }

/-! ## Block instructions -/

/-- The flags of LDI and LDD from A, the byte moved and BC after its decrement; S, Z, C are kept (R370). -/
def blockLoadFlags (old : FlagBits) (a t : Byte) (bc : Word) : FlagBits :=
  { old with h := false, n := false, pv := bc != 0, y := (t + a).getLsbD 1, x := (t + a).getLsbD 3 }

/-- The borrow from bit 4 in A minus the byte compared (R374). -/
def blockBorrow (a t : Byte) : Bool := decide (a.toNat % 16 < t.toNat % 16)

/-- `n <- res - h` (R374). -/
def blockCompareN (a t : Byte) : Byte := a - t - BitVec.ofNat 8 (bit (blockBorrow a t))

/-- The flags of CPI and CPD from A, the byte compared and BC after its decrement; C is kept (R374). -/
def blockCompareFlags (old : FlagBits) (a t : Byte) (bc : Word) : FlagBits :=
  { old with
    s := (a - t).getLsbD 7
    z := a - t == 0
    y := (blockCompareN a t).getLsbD 1
    h := blockBorrow a t
    x := (blockCompareN a t).getLsbD 3
    pv := bc != 0
    n := true }

/-- The flags of the block I/O instructions: Z from B after its decrement, every other bit drawn (R482). -/
def blockIoFlags (free b : Byte) : FlagBits := { FlagBits.ofByte free with z := b == 0 }

end Sys2Proof.Machine
end

