-- ==== Sys2Proof/Machine/Alu16.lean ====
section
/-! DEFINITION. The 16-bit arithmetic instructions (42_alu16.md). T-states by R630. -/

namespace Sys2Proof.Machine

/-- HL and the flags from a computed pair. -/
def State.setHlResult (s : State) (r : Word × FlagBits) : State := (s.setHl r.1).setFlags r.2

/-- `ADD XY,pp` with the pair's value `b` (R303). -/
def State.addIndex (s : State) (x : Index) (b : Word) : State :=
  (s.setIndex x (add16 (s.index x) b s.flags).1).setFlags (add16 (s.index x) b s.flags).2

/-- `ADD HL,rp` (R300). -/
def execAddHlPair (p : Pair) (s : State) : Host.Outcome State Fault Refusal :=
  finish 11 (s.setHlResult (add16 s.hl (s.pair p) s.flags))

/-- `ADC HL,rp` (R301). -/
def execAdcHlPair (p : Pair) (s : State) : Host.Outcome State Fault Refusal :=
  finish 15 (s.setHlResult (adc16 s.hl (s.pair p) s.flags.c))

/-- `SBC HL,rp` (R302). -/
def execSbcHlPair (p : Pair) (s : State) : Host.Outcome State Fault Refusal :=
  finish 15 (s.setHlResult (sbc16 s.hl (s.pair p) s.flags.c))

/-- `ADD IX,pp` (R303). -/
def execAddIxPair (p : IxPair) (s : State) : Host.Outcome State Fault Refusal := finish 15 (s.addIndex .ix (s.ixPair p))

/-- `ADD IY,pp` (R303). -/
def execAddIyPair (p : IyPair) (s : State) : Host.Outcome State Fault Refusal := finish 15 (s.addIndex .iy (s.iyPair p))

/-- `INC rp` (R304). -/
def execIncPair (p : Pair) (s : State) : Host.Outcome State Fault Refusal := finish 6 (s.setPair p (s.pair p + 1))

/-- `INC IX` (R305). -/
def execIncIx (s : State) : Host.Outcome State Fault Refusal := finish 10 (s.setIndex .ix (s.ix + 1))

/-- `INC IY` (R305). -/
def execIncIy (s : State) : Host.Outcome State Fault Refusal := finish 10 (s.setIndex .iy (s.iy + 1))

/-- `DEC rp` (R306). -/
def execDecPair (p : Pair) (s : State) : Host.Outcome State Fault Refusal := finish 6 (s.setPair p (s.pair p - 1))

/-- `DEC IX` (R307). -/
def execDecIx (s : State) : Host.Outcome State Fault Refusal := finish 10 (s.setIndex .ix (s.ix - 1))

/-- `DEC IY` (R307). -/
def execDecIy (s : State) : Host.Outcome State Fault Refusal := finish 10 (s.setIndex .iy (s.iy - 1))

end Sys2Proof.Machine
end

