-- ==== Sys2Proof/Machine/Alu8.lean ====
section
/-! DEFINITION. The 8-bit arithmetic and logic instructions (41_alu8.md). T-states by R630. -/

namespace Sys2Proof.Machine

/-! ## Shared operations: each ALU operation on A and a byte `v` -/

/-- A and the flags from a computed pair. -/
def State.setResult (s : State) (r : Byte × FlagBits) : State := (s.setA r.1).setFlags r.2

/-- `A <- add8(A, v, 0)` (R251). -/
def State.accAdd (s : State) (v : Byte) : State := s.setResult (add8 s.regs.a v false)

/-- `A <- add8(A, v, F.C)` (R252). -/
def State.accAdc (s : State) (v : Byte) : State := s.setResult (add8 s.regs.a v s.flags.c)

/-- `A <- sub8(A, v, 0)` (R253). -/
def State.accSub (s : State) (v : Byte) : State := s.setResult (sub8 s.regs.a v false)

/-- `A <- sub8(A, v, F.C)` (R254). -/
def State.accSbc (s : State) (v : Byte) : State := s.setResult (sub8 s.regs.a v s.flags.c)

/-- AND (R255). -/
def State.accAnd (s : State) (v : Byte) : State := s.setResult (s.regs.a &&& v, logicFlags (s.regs.a &&& v) true)

/-- XOR (R257). -/
def State.accXor (s : State) (v : Byte) : State := s.setResult (s.regs.a ^^^ v, logicFlags (s.regs.a ^^^ v) false)

/-- OR (R256). -/
def State.accOr (s : State) (v : Byte) : State := s.setResult (s.regs.a ||| v, logicFlags (s.regs.a ||| v) false)

/-- CP: the flags of the subtraction, but Y and X from the operand; A is kept (R258). -/
def State.accCp (s : State) (v : Byte) : State :=
  s.setFlags { (sub8 s.regs.a v false).2 with y := v.getLsbD 5, x := v.getLsbD 3 }

/-- INC of the byte at `ea` (R260, R261). -/
def State.incByte (s : State) (ea : Word) : State :=
  (s.store ea (s.readByte ea + 1)).setFlags (incFlags s.flags (s.readByte ea))

/-- DEC of the byte at `ea` (R263, R264). -/
def State.decByte (s : State) (ea : Word) : State :=
  (s.store ea (s.readByte ea - 1)).setFlags (decFlags s.flags (s.readByte ea))

/-- The Y and X that SCF and CCF leave open are drawn (R268, R269, D17). -/
def State.drawCarry (s : State) (h c : Bool) : State :=
  (s.setFlags ({ s.flags with h := h, n := false, c := c }.drawYX s.freeByte)).drew

/-! ## The eight operations in the four operand forms (R250) -/

/-- `ADD A,s` (R251). -/
def execAddReg (src : Reg8) (s : State) : Host.Outcome State Fault Refusal := finish 4 (s.accAdd (s.reg8 src))

/-- `ADD A,(HL)` (R251). -/
def execAddMemHl (s : State) : Host.Outcome State Fault Refusal := finish 7 (s.accAdd (s.readByte s.hl))

/-- `ADD A,n` (R251). -/
def execAddImm (n : Byte) (s : State) : Host.Outcome State Fault Refusal := finish 7 (s.accAdd n)

/-- `ADD A,(IX+d)` (R251). -/
def execAddMemIx (d : Byte) (s : State) : Host.Outcome State Fault Refusal := finish 19 (s.accAdd (s.readByte (s.ea .ix d)))

/-- `ADD A,(IY+d)` (R251). -/
def execAddMemIy (d : Byte) (s : State) : Host.Outcome State Fault Refusal := finish 19 (s.accAdd (s.readByte (s.ea .iy d)))

/-- `ADC A,s` (R252). -/
def execAdcReg (src : Reg8) (s : State) : Host.Outcome State Fault Refusal := finish 4 (s.accAdc (s.reg8 src))

/-- `ADC A,(HL)` (R252). -/
def execAdcMemHl (s : State) : Host.Outcome State Fault Refusal := finish 7 (s.accAdc (s.readByte s.hl))

/-- `ADC A,n` (R252). -/
def execAdcImm (n : Byte) (s : State) : Host.Outcome State Fault Refusal := finish 7 (s.accAdc n)

/-- `ADC A,(IX+d)` (R252). -/
def execAdcMemIx (d : Byte) (s : State) : Host.Outcome State Fault Refusal := finish 19 (s.accAdc (s.readByte (s.ea .ix d)))

/-- `ADC A,(IY+d)` (R252). -/
def execAdcMemIy (d : Byte) (s : State) : Host.Outcome State Fault Refusal := finish 19 (s.accAdc (s.readByte (s.ea .iy d)))

/-- `SUB s` (R253). -/
def execSubReg (src : Reg8) (s : State) : Host.Outcome State Fault Refusal := finish 4 (s.accSub (s.reg8 src))

/-- `SUB (HL)` (R253). -/
def execSubMemHl (s : State) : Host.Outcome State Fault Refusal := finish 7 (s.accSub (s.readByte s.hl))

/-- `SUB n` (R253). -/
def execSubImm (n : Byte) (s : State) : Host.Outcome State Fault Refusal := finish 7 (s.accSub n)

/-- `SUB (IX+d)` (R253). -/
def execSubMemIx (d : Byte) (s : State) : Host.Outcome State Fault Refusal := finish 19 (s.accSub (s.readByte (s.ea .ix d)))

/-- `SUB (IY+d)` (R253). -/
def execSubMemIy (d : Byte) (s : State) : Host.Outcome State Fault Refusal := finish 19 (s.accSub (s.readByte (s.ea .iy d)))

/-- `SBC A,s` (R254). -/
def execSbcReg (src : Reg8) (s : State) : Host.Outcome State Fault Refusal := finish 4 (s.accSbc (s.reg8 src))

/-- `SBC A,(HL)` (R254). -/
def execSbcMemHl (s : State) : Host.Outcome State Fault Refusal := finish 7 (s.accSbc (s.readByte s.hl))

/-- `SBC A,n` (R254). -/
def execSbcImm (n : Byte) (s : State) : Host.Outcome State Fault Refusal := finish 7 (s.accSbc n)

/-- `SBC A,(IX+d)` (R254). -/
def execSbcMemIx (d : Byte) (s : State) : Host.Outcome State Fault Refusal := finish 19 (s.accSbc (s.readByte (s.ea .ix d)))

/-- `SBC A,(IY+d)` (R254). -/
def execSbcMemIy (d : Byte) (s : State) : Host.Outcome State Fault Refusal := finish 19 (s.accSbc (s.readByte (s.ea .iy d)))

/-- `AND s` (R255). -/
def execAndReg (src : Reg8) (s : State) : Host.Outcome State Fault Refusal := finish 4 (s.accAnd (s.reg8 src))

/-- `AND (HL)` (R255). -/
def execAndMemHl (s : State) : Host.Outcome State Fault Refusal := finish 7 (s.accAnd (s.readByte s.hl))

/-- `AND n` (R255). -/
def execAndImm (n : Byte) (s : State) : Host.Outcome State Fault Refusal := finish 7 (s.accAnd n)

/-- `AND (IX+d)` (R255). -/
def execAndMemIx (d : Byte) (s : State) : Host.Outcome State Fault Refusal := finish 19 (s.accAnd (s.readByte (s.ea .ix d)))

/-- `AND (IY+d)` (R255). -/
def execAndMemIy (d : Byte) (s : State) : Host.Outcome State Fault Refusal := finish 19 (s.accAnd (s.readByte (s.ea .iy d)))

/-- `XOR s` (R257). -/
def execXorReg (src : Reg8) (s : State) : Host.Outcome State Fault Refusal := finish 4 (s.accXor (s.reg8 src))

/-- `XOR (HL)` (R257). -/
def execXorMemHl (s : State) : Host.Outcome State Fault Refusal := finish 7 (s.accXor (s.readByte s.hl))

/-- `XOR n` (R257). -/
def execXorImm (n : Byte) (s : State) : Host.Outcome State Fault Refusal := finish 7 (s.accXor n)

/-- `XOR (IX+d)` (R257). -/
def execXorMemIx (d : Byte) (s : State) : Host.Outcome State Fault Refusal := finish 19 (s.accXor (s.readByte (s.ea .ix d)))

/-- `XOR (IY+d)` (R257). -/
def execXorMemIy (d : Byte) (s : State) : Host.Outcome State Fault Refusal := finish 19 (s.accXor (s.readByte (s.ea .iy d)))

/-- `OR s` (R256). -/
def execOrReg (src : Reg8) (s : State) : Host.Outcome State Fault Refusal := finish 4 (s.accOr (s.reg8 src))

/-- `OR (HL)` (R256). -/
def execOrMemHl (s : State) : Host.Outcome State Fault Refusal := finish 7 (s.accOr (s.readByte s.hl))

/-- `OR n` (R256). -/
def execOrImm (n : Byte) (s : State) : Host.Outcome State Fault Refusal := finish 7 (s.accOr n)

/-- `OR (IX+d)` (R256). -/
def execOrMemIx (d : Byte) (s : State) : Host.Outcome State Fault Refusal := finish 19 (s.accOr (s.readByte (s.ea .ix d)))

/-- `OR (IY+d)` (R256). -/
def execOrMemIy (d : Byte) (s : State) : Host.Outcome State Fault Refusal := finish 19 (s.accOr (s.readByte (s.ea .iy d)))

/-- `CP s` (R258). -/
def execCpReg (src : Reg8) (s : State) : Host.Outcome State Fault Refusal := finish 4 (s.accCp (s.reg8 src))

/-- `CP (HL)` (R258). -/
def execCpMemHl (s : State) : Host.Outcome State Fault Refusal := finish 7 (s.accCp (s.readByte s.hl))

/-- `CP n` (R258). -/
def execCpImm (n : Byte) (s : State) : Host.Outcome State Fault Refusal := finish 7 (s.accCp n)

/-- `CP (IX+d)` (R258). -/
def execCpMemIx (d : Byte) (s : State) : Host.Outcome State Fault Refusal := finish 19 (s.accCp (s.readByte (s.ea .ix d)))

/-- `CP (IY+d)` (R258). -/
def execCpMemIy (d : Byte) (s : State) : Host.Outcome State Fault Refusal := finish 19 (s.accCp (s.readByte (s.ea .iy d)))

/-! ## Increment and decrement -/

/-- `INC r` (R259). -/
def execIncReg (r : Reg8) (s : State) : Host.Outcome State Fault Refusal :=
  finish 4 ((s.setReg8 r (s.reg8 r + 1)).setFlags (incFlags s.flags (s.reg8 r)))

/-- `INC (HL)` (R260). -/
def execIncMemHl (s : State) : Host.Outcome State Fault Refusal := finish 11 (s.incByte s.hl)

/-- `INC (IX+d)` (R261). -/
def execIncMemIx (d : Byte) (s : State) : Host.Outcome State Fault Refusal := finish 23 (s.incByte (s.ea .ix d))

/-- `INC (IY+d)` (R261). -/
def execIncMemIy (d : Byte) (s : State) : Host.Outcome State Fault Refusal := finish 23 (s.incByte (s.ea .iy d))

/-- `DEC r` (R262). -/
def execDecReg (r : Reg8) (s : State) : Host.Outcome State Fault Refusal :=
  finish 4 ((s.setReg8 r (s.reg8 r - 1)).setFlags (decFlags s.flags (s.reg8 r)))

/-- `DEC (HL)` (R263). -/
def execDecMemHl (s : State) : Host.Outcome State Fault Refusal := finish 11 (s.decByte s.hl)

/-- `DEC (IX+d)` (R264). -/
def execDecMemIx (d : Byte) (s : State) : Host.Outcome State Fault Refusal := finish 23 (s.decByte (s.ea .ix d))

/-- `DEC (IY+d)` (R264). -/
def execDecMemIy (d : Byte) (s : State) : Host.Outcome State Fault Refusal := finish 23 (s.decByte (s.ea .iy d))

/-! ## Accumulator and carry operations -/

/-- `DAA` (R265). -/
def execDaa (s : State) : Host.Outcome State Fault Refusal := finish 4 (s.setResult (daa s.regs.a s.flags))

/-- `CPL` (R266). -/
def execCpl (s : State) : Host.Outcome State Fault Refusal :=
  finish 4
    ((s.setA (~~~s.regs.a)).setFlags
      { s.flags with h := true, n := true, y := (~~~s.regs.a).getLsbD 5, x := (~~~s.regs.a).getLsbD 3 })

/-- `NEG`: `A <- sub8(0, A, 0)` (R267). -/
def execNeg (s : State) : Host.Outcome State Fault Refusal := finish 8 (s.setResult (sub8 0 s.regs.a false))

/-- `CCF`: H is the old carry (R268). -/
def execCcf (s : State) : Host.Outcome State Fault Refusal := finish 4 (s.drawCarry s.flags.c (!s.flags.c))

/-- `SCF` (R269). -/
def execScf (s : State) : Host.Outcome State Fault Refusal := finish 4 (s.drawCarry false true)

end Sys2Proof.Machine
end

