-- ==== Sys2Proof/Machine/Bit.lean ====
section
/-! DEFINITION. BIT, SET and RES (44_bit.md). T-states by R630. -/

namespace Sys2Proof.Machine

/-- BIT b of the byte at `ea` with Y and X from bits 5 and 3 of the address's high byte (R352). -/
def State.bitAt (s : State) (b : Nat) (ea : Word) : State :=
  s.setFlags (bitFlags s.flags b (s.readByte ea) (ea.getLsbD 13) (ea.getLsbD 11))

/-- SET b of the byte at `ea` (R354, R355). -/
def State.setBitAt (s : State) (b : Nat) (ea : Word) : State := s.store ea (s.readByte ea ||| bitMask b)

/-- RES b of the byte at `ea` (R357, R358). -/
def State.resBitAt (s : State) (b : Nat) (ea : Word) : State := s.store ea (s.readByte ea &&& ~~~bitMask b)

/-- `BIT b,s` (R350). -/
def execBitReg (b : Nat) (src : Reg8) (s : State) : Host.Outcome State Fault Refusal :=
  finish 8
    (s.setFlags (bitFlags s.flags b (s.reg8 src) ((s.reg8 src).getLsbD 5) ((s.reg8 src).getLsbD 3)))

/-- `BIT b,(HL)`: Y and X are drawn (R351, D17). -/
def execBitMemHl (b : Nat) (s : State) : Host.Outcome State Fault Refusal :=
  finish 12
    (s.setFlags (bitFlags s.flags b (s.readByte s.hl) (s.freeByte.getLsbD 5) (s.freeByte.getLsbD 3))).drew

/-- `BIT b,(IX+d)` (R352). -/
def execBitMemIx (b : Nat) (d : Byte) (s : State) : Host.Outcome State Fault Refusal := finish 20 (s.bitAt b (s.ea .ix d))

/-- `BIT b,(IY+d)` (R352). -/
def execBitMemIy (b : Nat) (d : Byte) (s : State) : Host.Outcome State Fault Refusal := finish 20 (s.bitAt b (s.ea .iy d))

/-- `SET b,s` (R353). -/
def execSetReg (b : Nat) (src : Reg8) (s : State) : Host.Outcome State Fault Refusal :=
  finish 8 (s.setReg8 src (s.reg8 src ||| bitMask b))

/-- `SET b,(HL)` (R354). -/
def execSetMemHl (b : Nat) (s : State) : Host.Outcome State Fault Refusal := finish 15 (s.setBitAt b s.hl)

/-- `SET b,(IX+d)` (R355). -/
def execSetMemIx (b : Nat) (d : Byte) (s : State) : Host.Outcome State Fault Refusal := finish 23 (s.setBitAt b (s.ea .ix d))

/-- `SET b,(IY+d)` (R355). -/
def execSetMemIy (b : Nat) (d : Byte) (s : State) : Host.Outcome State Fault Refusal := finish 23 (s.setBitAt b (s.ea .iy d))

/-- `RES b,s` (R356). -/
def execResReg (b : Nat) (src : Reg8) (s : State) : Host.Outcome State Fault Refusal :=
  finish 8 (s.setReg8 src (s.reg8 src &&& ~~~bitMask b))

/-- `RES b,(HL)` (R357). -/
def execResMemHl (b : Nat) (s : State) : Host.Outcome State Fault Refusal := finish 15 (s.resBitAt b s.hl)

/-- `RES b,(IX+d)` (R358). -/
def execResMemIx (b : Nat) (d : Byte) (s : State) : Host.Outcome State Fault Refusal := finish 23 (s.resBitAt b (s.ea .ix d))

/-- `RES b,(IY+d)` (R358). -/
def execResMemIy (b : Nat) (d : Byte) (s : State) : Host.Outcome State Fault Refusal := finish 23 (s.resBitAt b (s.ea .iy d))

end Sys2Proof.Machine
end

