-- ==== Sys2Proof/Machine/Block.lean ====
section
/-! DEFINITION. Block transfer, compare and search (45_block.md). One iteration a step (R378). T-states by R630. -/

namespace Sys2Proof.Machine

/-- One LDI (`step` = 1) or LDD (`step` = -1) iteration (R370, R371). -/
def State.blockLoad (s : State) (step : Word) : State :=
  let t := s.readByte s.hl
  ((((s.store s.de t).setHl (s.hl + step)).setDe (s.de + step)).setBc (s.bc - 1)).setFlags
    (blockLoadFlags s.flags s.regs.a t (s.bc - 1))

/-- One CPI (`step` = 1) or CPD (`step` = -1) iteration (R374, R375). -/
def State.blockCompare (s : State) (step : Word) : State :=
  ((s.setHl (s.hl + step)).setBc (s.bc - 1)).setFlags
    (blockCompareFlags s.flags s.regs.a (s.readByte s.hl) (s.bc - 1))

/-- A repeating iteration: PC back at the ED prefix, Y and X drawn (R378, R379). -/
def State.rewind (s : State) : State := ((s.jump (s.pc - 2)).setFlags (s.flags.drawYX s.freeByte)).drew

/-- The end of an iteration of LDIR, LDDR, CPIR, CPDR: 21 T-states where it repeats, else 16 (R378). -/
def finishRepeat (again : Bool) (s : State) : Host.Outcome State Fault Refusal :=
  finish (if again then 21 else 16) (if again then s.rewind else s)

/-- `LDI` (R370). -/
def execLdi (s : State) : Host.Outcome State Fault Refusal := finish 16 (s.blockLoad 1)

/-- `LDD` (R371). -/
def execLdd (s : State) : Host.Outcome State Fault Refusal := finish 16 (s.blockLoad (-1))

/-- `CPI` (R374). -/
def execCpi (s : State) : Host.Outcome State Fault Refusal := finish 16 (s.blockCompare 1)

/-- `CPD` (R375). -/
def execCpd (s : State) : Host.Outcome State Fault Refusal := finish 16 (s.blockCompare (-1))

/-- `LDIR`: repeats while BC is not 0 (R372). -/
def execLdir (s : State) : Host.Outcome State Fault Refusal := finishRepeat (s.bc - 1 != 0) (s.blockLoad 1)

/-- `LDDR`: repeats while BC is not 0 (R373). -/
def execLddr (s : State) : Host.Outcome State Fault Refusal := finishRepeat (s.bc - 1 != 0) (s.blockLoad (-1))

/-- `CPIR`: repeats while BC is not 0 and there is no match (R376). -/
def execCpir (s : State) : Host.Outcome State Fault Refusal :=
  finishRepeat (s.bc - 1 != 0 && s.regs.a - s.readByte s.hl != 0) (s.blockCompare 1)

/-- `CPDR`: repeats while BC is not 0 and there is no match (R377). -/
def execCpdr (s : State) : Host.Outcome State Fault Refusal :=
  finishRepeat (s.bc - 1 != 0 && s.regs.a - s.readByte s.hl != 0) (s.blockCompare (-1))

end Sys2Proof.Machine
end

