-- ==== Sys2Proof/Machine/Control.lean ====
section
/-! DEFINITION. Jumps, calls, returns and restarts (46_control.md). T-states by R630. -/

namespace Sys2Proof.Machine

/-- `Push16(PC); PC <- target` (R400, R410). -/
def State.callTo (s : State) (target : Word) : State := (s.push16 s.pc).jump target

/-- `PC <- Pop16()` (R402). -/
def State.returnTo (s : State) : State := s.popped.jump s.stackTop

/-- A conditional transfer: the state and the T-states of each outcome (R129). -/
def finishIf (taken : Bool) (nTaken : Nat) (onTaken : State) (n : Nat) (s : State) : Host.Outcome State Fault Refusal :=
  finish (if taken then nTaken else n) (if taken then onTaken else s)

/-- `JP nn` (R390). -/
def execJp (nn : Word) (s : State) : Host.Outcome State Fault Refusal := finish 10 (s.jump nn)

/-- `JP c,nn` (R391). -/
def execJpCond (cc : Cond) (nn : Word) (s : State) : Host.Outcome State Fault Refusal :=
  finishIf (s.cond cc) 10 (s.jump nn) 10 s

/-- `JR e` (R392). -/
def execJr (e : Byte) (s : State) : Host.Outcome State Fault Refusal := finish 12 (s.jump (s.relative e))

/-- `JR k,e` (R393). -/
def execJrCond (k : JrCond) (e : Byte) (s : State) : Host.Outcome State Fault Refusal :=
  finishIf (s.jrCond k) 12 (s.jump (s.relative e)) 7 s

/-- `JP (HL)`: to the address in HL (R394). -/
def execJpHl (s : State) : Host.Outcome State Fault Refusal := finish 4 (s.jump s.hl)

/-- `JP (IX)` (R395). -/
def execJpIx (s : State) : Host.Outcome State Fault Refusal := finish 8 (s.jump s.ix)

/-- `JP (IY)` (R395). -/
def execJpIy (s : State) : Host.Outcome State Fault Refusal := finish 8 (s.jump s.iy)

/-- `DJNZ e` (R396). -/
def execDjnz (e : Byte) (s : State) : Host.Outcome State Fault Refusal :=
  finishIf (s.regs.b - 1 != 0) 13 ((s.setB (s.regs.b - 1)).jump (s.relative e)) 8 (s.setB (s.regs.b - 1))

/-- `CALL nn` (R400). -/
def execCall (nn : Word) (s : State) : Host.Outcome State Fault Refusal := finish 17 (s.callTo nn)

/-- `CALL c,nn` (R401). -/
def execCallCond (cc : Cond) (nn : Word) (s : State) : Host.Outcome State Fault Refusal :=
  finishIf (s.cond cc) 17 (s.callTo nn) 10 s

/-- `RET` (R402). -/
def execRet (s : State) : Host.Outcome State Fault Refusal := finish 10 s.returnTo

/-- `RET c` (R403). -/
def execRetCond (cc : Cond) (s : State) : Host.Outcome State Fault Refusal := finishIf (s.cond cc) 11 s.returnTo 5 s

/-- `RETI` (R404, D18). -/
def execReti (s : State) : Host.Outcome State Fault Refusal := finish 14 s.returnFromInterrupt

/-- `RETN` (R405). -/
def execRetn (s : State) : Host.Outcome State Fault Refusal := finish 14 s.returnFromInterrupt

/-- `RST t`: a call to `8 * t` (R410). -/
def execRst (t : Nat) (s : State) : Host.Outcome State Fault Refusal := finish 11 (s.callTo (BitVec.ofNat 16 (8 * t)))

end Sys2Proof.Machine
end

