-- ==== Sys2Proof/Machine/CpuControl.lean ====
section
/-! DEFINITION. CPU control (48_cpu_control.md). T-states by R630. -/

namespace Sys2Proof.Machine

/-- `NOP` (R450). -/
def execNop (s : State) : Host.Outcome State Fault Refusal := finish 4 s

/-- `HALT`; PC is already past it (R451, D21). -/
def execHalt (s : State) : Host.Outcome State Fault Refusal := finish 4 { s with halted := true }

/-- `DI` (R452). -/
def execDi (s : State) : Host.Outcome State Fault Refusal := finish 4 { s with iff1 := false, iff2 := false }

/-- `EI` (R453). -/
def execEi (s : State) : Host.Outcome State Fault Refusal := finish 4 { s with iff1 := true, iff2 := true, eiShadow := true }

/-- `IM 0` (R455). -/
def execIm0 (s : State) : Host.Outcome State Fault Refusal := finish 8 { s with im := .im0 }

/-- `IM 1` (R456). -/
def execIm1 (s : State) : Host.Outcome State Fault Refusal := finish 8 { s with im := .im1 }

/-- `IM 2` (R457). -/
def execIm2 (s : State) : Host.Outcome State Fault Refusal := finish 8 { s with im := .im2 }

end Sys2Proof.Machine
end

