-- ==== Sys2Proof/Machine/Io.lean ====
section
/-! DEFINITION. Input and output (49_io.md). T-states by R630. -/

namespace Sys2Proof.Machine

/-- One INI (`step` = 1) or IND (`step` = -1) iteration; the port uses B before its decrement (R474, R476). -/
def State.blockIn (s : State) (step : Word) : State :=
  (((((s.ioRead s.bc).store s.hl s.ioByte).setB (s.regs.b - 1)).setHl (s.hl + step)).setFlags
    (blockIoFlags (Config.freeByte (s.draws + 1)) (s.regs.b - 1))).drew

/-- One OUTI (`step` = 1) or OUTD (`step` = -1) iteration; the port uses B after its decrement (R478, R480). -/
def State.blockOut (s : State) (step : Word) : State :=
  ((((s.setB (s.regs.b - 1)).ioWrite (join (s.regs.b - 1) s.regs.c) (s.readByte s.hl)).setHl (s.hl + step)).setFlags
    (blockIoFlags s.freeByte (s.regs.b - 1))).drew

/-- The end of an iteration of INIR, INDR, OTIR, OTDR: it repeats while B is not 0 (R378, R475). Every flag but Z is drawn
already, so nothing is drawn again. -/
def finishIoRepeat (again : Bool) (s : State) : Host.Outcome State Fault Refusal :=
  finish (if again then 21 else 16) (if again then s.jump (s.pc - 2) else s)

/-- `IN A,(n)`; no flag (R470). -/
def execInAImm (n : Byte) (s : State) : Host.Outcome State Fault Refusal := finish 11 ((s.ioRead (s.portA n)).setA s.ioByte)

/-- `IN r,(C)` (R471). -/
def execInRegC (r : Reg8) (s : State) : Host.Outcome State Fault Refusal :=
  finish 12 (((s.ioRead s.bc).setReg8 r s.ioByte).setFlags (byteFlags s.flags s.ioByte))

/-- `OUT (n),A` (R472). -/
def execOutImmA (n : Byte) (s : State) : Host.Outcome State Fault Refusal := finish 11 (s.ioWrite (s.portA n) s.regs.a)

/-- `OUT (C),r` (R473). -/
def execOutCReg (r : Reg8) (s : State) : Host.Outcome State Fault Refusal := finish 12 (s.ioWrite s.bc (s.reg8 r))

/-- `INI` (R474). -/
def execIni (s : State) : Host.Outcome State Fault Refusal := finish 16 (s.blockIn 1)

/-- `IND` (R476). -/
def execInd (s : State) : Host.Outcome State Fault Refusal := finish 16 (s.blockIn (-1))

/-- `OUTI` (R478). -/
def execOuti (s : State) : Host.Outcome State Fault Refusal := finish 16 (s.blockOut 1)

/-- `OUTD` (R480). -/
def execOutd (s : State) : Host.Outcome State Fault Refusal := finish 16 (s.blockOut (-1))

/-- `INIR` (R475). -/
def execInir (s : State) : Host.Outcome State Fault Refusal := finishIoRepeat (s.regs.b - 1 != 0) (s.blockIn 1)

/-- `INDR` (R477). -/
def execIndr (s : State) : Host.Outcome State Fault Refusal := finishIoRepeat (s.regs.b - 1 != 0) (s.blockIn (-1))

/-- `OTIR` (R479). -/
def execOtir (s : State) : Host.Outcome State Fault Refusal := finishIoRepeat (s.regs.b - 1 != 0) (s.blockOut 1)

/-- `OTDR` (R481). -/
def execOtdr (s : State) : Host.Outcome State Fault Refusal := finishIoRepeat (s.regs.b - 1 != 0) (s.blockOut (-1))

end Sys2Proof.Machine
end

