-- ==== Sys2Proof/Machine/Load.lean ====
section
/-! DEFINITION. The load instructions (40_load.md). T-states by R630. -/

namespace Sys2Proof.Machine

/-! ## Shared operations -/

/-- `reg8[r] <- MemRead(ea, 1)` (R202, R203). -/
def State.loadByte (s : State) (r : Reg8) (ea : Word) : State := s.setReg8 r (s.readByte ea)

/-- LD A,I and LD A,R: A and the flags from the register, P/V from IFF2 (R214, R215). -/
def State.loadIr (s : State) (v : Byte) : State := (s.setA v).setFlags (loadIrFlags s.flags v s.iff2)

/-! ## 8-bit loads -/

/-- `LD r,s` (R200). -/
def execLdRegReg (r : Reg8) (src : Reg8) (s : State) : Host.Outcome State Fault Refusal := finish 4 (s.setReg8 r (s.reg8 src))

/-- `LD r,n` (R201). -/
def execLdRegN (r : Reg8) (n : Byte) (s : State) : Host.Outcome State Fault Refusal := finish 7 (s.setReg8 r n)

/-- `LD r,(HL)` (R202). -/
def execLdRegMemHl (r : Reg8) (s : State) : Host.Outcome State Fault Refusal := finish 7 (s.loadByte r s.hl)

/-- `LD r,(IX+d)` (R203). -/
def execLdRegMemIx (r : Reg8) (d : Byte) (s : State) : Host.Outcome State Fault Refusal :=
  finish 19 (s.loadByte r (s.ea .ix d))

/-- `LD r,(IY+d)` (R203). -/
def execLdRegMemIy (r : Reg8) (d : Byte) (s : State) : Host.Outcome State Fault Refusal :=
  finish 19 (s.loadByte r (s.ea .iy d))

/-- `LD (HL),r` (R204). -/
def execLdMemHlReg (r : Reg8) (s : State) : Host.Outcome State Fault Refusal := finish 7 (s.store s.hl (s.reg8 r))

/-- `LD (IX+d),r` (R205). -/
def execLdMemIxReg (d : Byte) (r : Reg8) (s : State) : Host.Outcome State Fault Refusal :=
  finish 19 (s.store (s.ea .ix d) (s.reg8 r))

/-- `LD (IY+d),r` (R205). -/
def execLdMemIyReg (d : Byte) (r : Reg8) (s : State) : Host.Outcome State Fault Refusal :=
  finish 19 (s.store (s.ea .iy d) (s.reg8 r))

/-- `LD (HL),n` (R206). -/
def execLdMemHlN (n : Byte) (s : State) : Host.Outcome State Fault Refusal := finish 10 (s.store s.hl n)

/-- `LD (IX+d),n` (R207). -/
def execLdMemIxN (d : Byte) (n : Byte) (s : State) : Host.Outcome State Fault Refusal := finish 19 (s.store (s.ea .ix d) n)

/-- `LD (IY+d),n` (R207). -/
def execLdMemIyN (d : Byte) (n : Byte) (s : State) : Host.Outcome State Fault Refusal := finish 19 (s.store (s.ea .iy d) n)

/-- `LD A,(BC)` (R208). -/
def execLdAMemBc (s : State) : Host.Outcome State Fault Refusal := finish 7 (s.setA (s.readByte s.bc))

/-- `LD A,(DE)` (R209). -/
def execLdAMemDe (s : State) : Host.Outcome State Fault Refusal := finish 7 (s.setA (s.readByte s.de))

/-- `LD A,(nn)` (R210). -/
def execLdAMemNn (nn : Word) (s : State) : Host.Outcome State Fault Refusal := finish 13 (s.setA (s.readByte nn))

/-- `LD (BC),A` (R211). -/
def execLdMemBcA (s : State) : Host.Outcome State Fault Refusal := finish 7 (s.store s.bc s.regs.a)

/-- `LD (DE),A` (R212). -/
def execLdMemDeA (s : State) : Host.Outcome State Fault Refusal := finish 7 (s.store s.de s.regs.a)

/-- `LD (nn),A` (R213). -/
def execLdMemNnA (nn : Word) (s : State) : Host.Outcome State Fault Refusal := finish 13 (s.store nn s.regs.a)

/-- `LD A,I` (R214). -/
def execLdAI (s : State) : Host.Outcome State Fault Refusal := finish 9 (s.loadIr s.i)

/-- `LD A,R`: R counts this instruction's own two fetches, made before (R215). -/
def execLdAR (s : State) : Host.Outcome State Fault Refusal := finish 9 (s.loadIr s.r)

/-- `LD I,A` (R216). -/
def execLdIA (s : State) : Host.Outcome State Fault Refusal := finish 9 { s with i := s.regs.a }

/-- `LD R,A` (R217). -/
def execLdRA (s : State) : Host.Outcome State Fault Refusal := finish 9 { s with r := s.regs.a }

/-! ## 16-bit loads -/

/-- `LD rp,nn` (R220). -/
def execLdPairNn (p : Pair) (nn : Word) (s : State) : Host.Outcome State Fault Refusal := finish 10 (s.setPair p nn)

/-- `LD IX,nn` (R221). -/
def execLdIxNn (nn : Word) (s : State) : Host.Outcome State Fault Refusal := finish 14 (s.setIndex .ix nn)

/-- `LD IY,nn` (R221). -/
def execLdIyNn (nn : Word) (s : State) : Host.Outcome State Fault Refusal := finish 14 (s.setIndex .iy nn)

/-- `LD HL,(nn)` (R222). -/
def execLdHlMemNn (nn : Word) (s : State) : Host.Outcome State Fault Refusal := finish 16 (s.setHl (s.readWord nn))

/-- `LD rp,(nn)` (R223). -/
def execLdPairMemNn (p : Pair) (nn : Word) (s : State) : Host.Outcome State Fault Refusal :=
  finish 20 (s.setPair p (s.readWord nn))

/-- `LD IX,(nn)` (R224). -/
def execLdIxMemNn (nn : Word) (s : State) : Host.Outcome State Fault Refusal := finish 20 (s.setIndex .ix (s.readWord nn))

/-- `LD IY,(nn)` (R224). -/
def execLdIyMemNn (nn : Word) (s : State) : Host.Outcome State Fault Refusal := finish 20 (s.setIndex .iy (s.readWord nn))

/-- `LD (nn),HL` (R225). -/
def execLdMemNnHl (nn : Word) (s : State) : Host.Outcome State Fault Refusal := finish 16 (s.storeWord nn s.hl)

/-- `LD (nn),rp` (R226). -/
def execLdMemNnPair (nn : Word) (p : Pair) (s : State) : Host.Outcome State Fault Refusal :=
  finish 20 (s.storeWord nn (s.pair p))

/-- `LD (nn),IX` (R227). -/
def execLdMemNnIx (nn : Word) (s : State) : Host.Outcome State Fault Refusal := finish 20 (s.storeWord nn s.ix)

/-- `LD (nn),IY` (R227). -/
def execLdMemNnIy (nn : Word) (s : State) : Host.Outcome State Fault Refusal := finish 20 (s.storeWord nn s.iy)

/-- `LD SP,HL` (R228). -/
def execLdSpHl (s : State) : Host.Outcome State Fault Refusal := finish 6 (s.setSp s.hl)

/-- `LD SP,IX` (R229). -/
def execLdSpIx (s : State) : Host.Outcome State Fault Refusal := finish 10 (s.setSp s.ix)

/-- `LD SP,IY` (R229). -/
def execLdSpIy (s : State) : Host.Outcome State Fault Refusal := finish 10 (s.setSp s.iy)

end Sys2Proof.Machine
end

