-- ==== Sys2Proof/Machine/Rotate.lean ====
section
/-! DEFINITION. The rotates and shifts (43_rotate_shift.md). T-states by R630. -/

namespace Sys2Proof.Machine

/-- RLCA, RRCA, RLA, RRA: A and their flags from a computed rotate (R320 to R323). -/
def State.rotateA (s : State) (r : Shifted) : State := (s.setA r.1).setFlags (accShiftFlags s.flags r)

/-- A CB rotate or shift of a register (R324). -/
def State.shiftReg (s : State) (op : Byte → Bool → Shifted) (r : Reg8) : State :=
  (s.setReg8 r (op (s.reg8 r) s.flags.c).1).setFlags (shiftFlags (op (s.reg8 r) s.flags.c))

/-- A CB rotate or shift of the byte at `ea` (R324). -/
def State.shiftByte (s : State) (op : Byte → Bool → Shifted) (ea : Word) : State :=
  (s.store ea (op (s.readByte ea) s.flags.c).1).setFlags (shiftFlags (op (s.readByte ea) s.flags.c))

/-- RLD and RRD: the byte stored at HL, and A with its flags (R332, R333). -/
def State.rotateDigit (s : State) (stored res : Byte) : State :=
  ((s.store s.hl stored).setA res).setFlags (byteFlags s.flags res)

/-- `RLCA` (R320). -/
def execRlca (s : State) : Host.Outcome State Fault Refusal := finish 4 (s.rotateA (rlc s.regs.a s.flags.c))

/-- `RLA` (R321). -/
def execRla (s : State) : Host.Outcome State Fault Refusal := finish 4 (s.rotateA (rl s.regs.a s.flags.c))

/-- `RRCA` (R322). -/
def execRrca (s : State) : Host.Outcome State Fault Refusal := finish 4 (s.rotateA (rrc s.regs.a s.flags.c))

/-- `RRA` (R323). -/
def execRra (s : State) : Host.Outcome State Fault Refusal := finish 4 (s.rotateA (rr s.regs.a s.flags.c))

/-- `RLC s` (R325). -/
def execRlcReg (src : Reg8) (s : State) : Host.Outcome State Fault Refusal := finish 8 (s.shiftReg rlc src)

/-- `RLC (HL)` (R325). -/
def execRlcMemHl (s : State) : Host.Outcome State Fault Refusal := finish 15 (s.shiftByte rlc s.hl)

/-- `RLC (IX+d)` (R325). -/
def execRlcMemIx (d : Byte) (s : State) : Host.Outcome State Fault Refusal := finish 23 (s.shiftByte rlc (s.ea .ix d))

/-- `RLC (IY+d)` (R325). -/
def execRlcMemIy (d : Byte) (s : State) : Host.Outcome State Fault Refusal := finish 23 (s.shiftByte rlc (s.ea .iy d))

/-- `RL s` (R326). -/
def execRlReg (src : Reg8) (s : State) : Host.Outcome State Fault Refusal := finish 8 (s.shiftReg rl src)

/-- `RL (HL)` (R326). -/
def execRlMemHl (s : State) : Host.Outcome State Fault Refusal := finish 15 (s.shiftByte rl s.hl)

/-- `RL (IX+d)` (R326). -/
def execRlMemIx (d : Byte) (s : State) : Host.Outcome State Fault Refusal := finish 23 (s.shiftByte rl (s.ea .ix d))

/-- `RL (IY+d)` (R326). -/
def execRlMemIy (d : Byte) (s : State) : Host.Outcome State Fault Refusal := finish 23 (s.shiftByte rl (s.ea .iy d))

/-- `RRC s` (R327). -/
def execRrcReg (src : Reg8) (s : State) : Host.Outcome State Fault Refusal := finish 8 (s.shiftReg rrc src)

/-- `RRC (HL)` (R327). -/
def execRrcMemHl (s : State) : Host.Outcome State Fault Refusal := finish 15 (s.shiftByte rrc s.hl)

/-- `RRC (IX+d)` (R327). -/
def execRrcMemIx (d : Byte) (s : State) : Host.Outcome State Fault Refusal := finish 23 (s.shiftByte rrc (s.ea .ix d))

/-- `RRC (IY+d)` (R327). -/
def execRrcMemIy (d : Byte) (s : State) : Host.Outcome State Fault Refusal := finish 23 (s.shiftByte rrc (s.ea .iy d))

/-- `RR s` (R328). -/
def execRrReg (src : Reg8) (s : State) : Host.Outcome State Fault Refusal := finish 8 (s.shiftReg rr src)

/-- `RR (HL)` (R328). -/
def execRrMemHl (s : State) : Host.Outcome State Fault Refusal := finish 15 (s.shiftByte rr s.hl)

/-- `RR (IX+d)` (R328). -/
def execRrMemIx (d : Byte) (s : State) : Host.Outcome State Fault Refusal := finish 23 (s.shiftByte rr (s.ea .ix d))

/-- `RR (IY+d)` (R328). -/
def execRrMemIy (d : Byte) (s : State) : Host.Outcome State Fault Refusal := finish 23 (s.shiftByte rr (s.ea .iy d))

/-- `SLA s` (R329). -/
def execSlaReg (src : Reg8) (s : State) : Host.Outcome State Fault Refusal := finish 8 (s.shiftReg sla src)

/-- `SLA (HL)` (R329). -/
def execSlaMemHl (s : State) : Host.Outcome State Fault Refusal := finish 15 (s.shiftByte sla s.hl)

/-- `SLA (IX+d)` (R329). -/
def execSlaMemIx (d : Byte) (s : State) : Host.Outcome State Fault Refusal := finish 23 (s.shiftByte sla (s.ea .ix d))

/-- `SLA (IY+d)` (R329). -/
def execSlaMemIy (d : Byte) (s : State) : Host.Outcome State Fault Refusal := finish 23 (s.shiftByte sla (s.ea .iy d))

/-- `SRA s` (R330). -/
def execSraReg (src : Reg8) (s : State) : Host.Outcome State Fault Refusal := finish 8 (s.shiftReg sra src)

/-- `SRA (HL)` (R330). -/
def execSraMemHl (s : State) : Host.Outcome State Fault Refusal := finish 15 (s.shiftByte sra s.hl)

/-- `SRA (IX+d)` (R330). -/
def execSraMemIx (d : Byte) (s : State) : Host.Outcome State Fault Refusal := finish 23 (s.shiftByte sra (s.ea .ix d))

/-- `SRA (IY+d)` (R330). -/
def execSraMemIy (d : Byte) (s : State) : Host.Outcome State Fault Refusal := finish 23 (s.shiftByte sra (s.ea .iy d))

/-- `SRL s` (R331). -/
def execSrlReg (src : Reg8) (s : State) : Host.Outcome State Fault Refusal := finish 8 (s.shiftReg srl src)

/-- `SRL (HL)` (R331). -/
def execSrlMemHl (s : State) : Host.Outcome State Fault Refusal := finish 15 (s.shiftByte srl s.hl)

/-- `SRL (IX+d)` (R331). -/
def execSrlMemIx (d : Byte) (s : State) : Host.Outcome State Fault Refusal := finish 23 (s.shiftByte srl (s.ea .ix d))

/-- `SRL (IY+d)` (R331). -/
def execSrlMemIy (d : Byte) (s : State) : Host.Outcome State Fault Refusal := finish 23 (s.shiftByte srl (s.ea .iy d))

/-- `RLD` (R332). -/
def execRld (s : State) : Host.Outcome State Fault Refusal :=
  finish 18
    (s.rotateDigit (joinNibbles (lowNibble (s.readByte s.hl)) (lowNibble s.regs.a))
      (joinNibbles (highNibble s.regs.a) (highNibble (s.readByte s.hl))))

/-- `RRD` (R333). -/
def execRrd (s : State) : Host.Outcome State Fault Refusal :=
  finish 18
    (s.rotateDigit (joinNibbles (lowNibble s.regs.a) (highNibble (s.readByte s.hl)))
      (joinNibbles (highNibble s.regs.a) (lowNibble (s.readByte s.hl))))

end Sys2Proof.Machine
end

