-- ==== Sys2Proof/Machine/Stack.lean ====
section
/-! DEFINITION. Stack and exchange (47_stack_exchange.md). T-states by R630. -/

namespace Sys2Proof.Machine

/-- Two words exchanged with the top of the stack: `v` is stored there, low byte first, and `SP` is kept (R439, R440). -/
def State.storeTop (s : State) (v : Word) : State := s.storeWord s.sp v

/-- `PUSH q` (R432). -/
def execPushPair (q : StackPair) (s : State) : Host.Outcome State Fault Refusal := finish 11 (s.push16 (s.stackPair q))

/-- `PUSH IX` (R433). -/
def execPushIx (s : State) : Host.Outcome State Fault Refusal := finish 15 (s.push16 s.ix)

/-- `PUSH IY` (R433). -/
def execPushIy (s : State) : Host.Outcome State Fault Refusal := finish 15 (s.push16 s.iy)

/-- `POP q` (R434). -/
def execPopPair (q : StackPair) (s : State) : Host.Outcome State Fault Refusal :=
  finish 10 (s.popped.setStackPair q s.stackTop)

/-- `POP IX` (R435). -/
def execPopIx (s : State) : Host.Outcome State Fault Refusal := finish 14 (s.popped.setIndex .ix s.stackTop)

/-- `POP IY` (R435). -/
def execPopIy (s : State) : Host.Outcome State Fault Refusal := finish 14 (s.popped.setIndex .iy s.stackTop)

/-- `EX DE,HL` (R436). -/
def execExDeHl (s : State) : Host.Outcome State Fault Refusal := finish 4 ((s.setDe s.hl).setHl s.de)

/-- `EX AF,AF'` (R437). -/
def execExAfAf (s : State) : Host.Outcome State Fault Refusal :=
  finish 4
    { s with
      regs := { s.regs with a := s.shadow.a, f := s.shadow.f }
      shadow := { s.shadow with a := s.regs.a, f := s.regs.f } }

/-- `EXX`: BC, DE, HL with BC', DE', HL' (R438). -/
def execExx (s : State) : Host.Outcome State Fault Refusal :=
  finish 4
    { s with
      regs := { s.shadow with a := s.regs.a, f := s.regs.f }
      shadow := { s.regs with a := s.shadow.a, f := s.shadow.f } }

/-- `EX (SP),HL` (R439). -/
def execExMemSpHl (s : State) : Host.Outcome State Fault Refusal := finish 19 ((s.storeTop s.hl).setHl s.stackTop)

/-- `EX (SP),IX` (R440). -/
def execExMemSpIx (s : State) : Host.Outcome State Fault Refusal := finish 23 ((s.storeTop s.ix).setIndex .ix s.stackTop)

/-- `EX (SP),IY` (R440). -/
def execExMemSpIy (s : State) : Host.Outcome State Fault Refusal := finish 23 ((s.storeTop s.iy).setIndex .iy s.stackTop)

end Sys2Proof.Machine
end

