-- ==== Sys2Proof/Machine/Dispatch.lean ====
section
/-! DEFINITION. One arm per instruction: the direct call of its meaning. -/

namespace Sys2Proof.Machine

def exec (i : Instr) (s : State) : Host.Outcome State Fault Refusal :=
  match i with
  | .nop => Sys2Proof.Machine.execNop s
  | .ldPairNn p nn => Sys2Proof.Machine.execLdPairNn p nn s
  | .addHlPair p => Sys2Proof.Machine.execAddHlPair p s
  | .ldMemBcA => Sys2Proof.Machine.execLdMemBcA s
  | .ldMemDeA => Sys2Proof.Machine.execLdMemDeA s
  | .ldMemNnHl nn => Sys2Proof.Machine.execLdMemNnHl nn s
  | .ldMemNnA nn => Sys2Proof.Machine.execLdMemNnA nn s
  | .ldAMemBc => Sys2Proof.Machine.execLdAMemBc s
  | .ldAMemDe => Sys2Proof.Machine.execLdAMemDe s
  | .ldHlMemNn nn => Sys2Proof.Machine.execLdHlMemNn nn s
  | .ldAMemNn nn => Sys2Proof.Machine.execLdAMemNn nn s
  | .incPair p => Sys2Proof.Machine.execIncPair p s
  | .decPair p => Sys2Proof.Machine.execDecPair p s
  | .incReg r => Sys2Proof.Machine.execIncReg r s
  | .incMemHl => Sys2Proof.Machine.execIncMemHl s
  | .decReg r => Sys2Proof.Machine.execDecReg r s
  | .decMemHl => Sys2Proof.Machine.execDecMemHl s
  | .ldRegN r n => Sys2Proof.Machine.execLdRegN r n s
  | .ldMemHlN n => Sys2Proof.Machine.execLdMemHlN n s
  | .rlca => Sys2Proof.Machine.execRlca s
  | .rrca => Sys2Proof.Machine.execRrca s
  | .rla => Sys2Proof.Machine.execRla s
  | .rra => Sys2Proof.Machine.execRra s
  | .daa => Sys2Proof.Machine.execDaa s
  | .cpl => Sys2Proof.Machine.execCpl s
  | .scf => Sys2Proof.Machine.execScf s
  | .ccf => Sys2Proof.Machine.execCcf s
  | .exAfAf => Sys2Proof.Machine.execExAfAf s
  | .djnz e => Sys2Proof.Machine.execDjnz e s
  | .jr e => Sys2Proof.Machine.execJr e s
  | .jrCond k e => Sys2Proof.Machine.execJrCond k e s
  | .ldRegReg r src => Sys2Proof.Machine.execLdRegReg r src s
  | .ldRegMemHl r => Sys2Proof.Machine.execLdRegMemHl r s
  | .ldMemHlReg r => Sys2Proof.Machine.execLdMemHlReg r s
  | .halt => Sys2Proof.Machine.execHalt s
  | .addReg src => Sys2Proof.Machine.execAddReg src s
  | .addMemHl => Sys2Proof.Machine.execAddMemHl s
  | .addImm n => Sys2Proof.Machine.execAddImm n s
  | .adcReg src => Sys2Proof.Machine.execAdcReg src s
  | .adcMemHl => Sys2Proof.Machine.execAdcMemHl s
  | .adcImm n => Sys2Proof.Machine.execAdcImm n s
  | .subReg src => Sys2Proof.Machine.execSubReg src s
  | .subMemHl => Sys2Proof.Machine.execSubMemHl s
  | .subImm n => Sys2Proof.Machine.execSubImm n s
  | .sbcReg src => Sys2Proof.Machine.execSbcReg src s
  | .sbcMemHl => Sys2Proof.Machine.execSbcMemHl s
  | .sbcImm n => Sys2Proof.Machine.execSbcImm n s
  | .andReg src => Sys2Proof.Machine.execAndReg src s
  | .andMemHl => Sys2Proof.Machine.execAndMemHl s
  | .andImm n => Sys2Proof.Machine.execAndImm n s
  | .xorReg src => Sys2Proof.Machine.execXorReg src s
  | .xorMemHl => Sys2Proof.Machine.execXorMemHl s
  | .xorImm n => Sys2Proof.Machine.execXorImm n s
  | .orReg src => Sys2Proof.Machine.execOrReg src s
  | .orMemHl => Sys2Proof.Machine.execOrMemHl s
  | .orImm n => Sys2Proof.Machine.execOrImm n s
  | .cpReg src => Sys2Proof.Machine.execCpReg src s
  | .cpMemHl => Sys2Proof.Machine.execCpMemHl s
  | .cpImm n => Sys2Proof.Machine.execCpImm n s
  | .retCond cc => Sys2Proof.Machine.execRetCond cc s
  | .popPair q => Sys2Proof.Machine.execPopPair q s
  | .ret => Sys2Proof.Machine.execRet s
  | .exx => Sys2Proof.Machine.execExx s
  | .jpHl => Sys2Proof.Machine.execJpHl s
  | .ldSpHl => Sys2Proof.Machine.execLdSpHl s
  | .jpCond cc nn => Sys2Proof.Machine.execJpCond cc nn s
  | .jp nn => Sys2Proof.Machine.execJp nn s
  | .outImmA n => Sys2Proof.Machine.execOutImmA n s
  | .inAImm n => Sys2Proof.Machine.execInAImm n s
  | .exMemSpHl => Sys2Proof.Machine.execExMemSpHl s
  | .exDeHl => Sys2Proof.Machine.execExDeHl s
  | .di => Sys2Proof.Machine.execDi s
  | .ei => Sys2Proof.Machine.execEi s
  | .callCond cc nn => Sys2Proof.Machine.execCallCond cc nn s
  | .pushPair q => Sys2Proof.Machine.execPushPair q s
  | .call nn => Sys2Proof.Machine.execCall nn s
  | .rst t => Sys2Proof.Machine.execRst t s
  | .rlcReg src => Sys2Proof.Machine.execRlcReg src s
  | .rlcMemHl => Sys2Proof.Machine.execRlcMemHl s
  | .rrcReg src => Sys2Proof.Machine.execRrcReg src s
  | .rrcMemHl => Sys2Proof.Machine.execRrcMemHl s
  | .rlReg src => Sys2Proof.Machine.execRlReg src s
  | .rlMemHl => Sys2Proof.Machine.execRlMemHl s
  | .rrReg src => Sys2Proof.Machine.execRrReg src s
  | .rrMemHl => Sys2Proof.Machine.execRrMemHl s
  | .slaReg src => Sys2Proof.Machine.execSlaReg src s
  | .slaMemHl => Sys2Proof.Machine.execSlaMemHl s
  | .sraReg src => Sys2Proof.Machine.execSraReg src s
  | .sraMemHl => Sys2Proof.Machine.execSraMemHl s
  | .srlReg src => Sys2Proof.Machine.execSrlReg src s
  | .srlMemHl => Sys2Proof.Machine.execSrlMemHl s
  | .bitReg b src => Sys2Proof.Machine.execBitReg b src s
  | .bitMemHl b => Sys2Proof.Machine.execBitMemHl b s
  | .resReg b src => Sys2Proof.Machine.execResReg b src s
  | .resMemHl b => Sys2Proof.Machine.execResMemHl b s
  | .setReg b src => Sys2Proof.Machine.execSetReg b src s
  | .setMemHl b => Sys2Proof.Machine.execSetMemHl b s
  | .inRegC r => Sys2Proof.Machine.execInRegC r s
  | .outCReg r => Sys2Proof.Machine.execOutCReg r s
  | .sbcHlPair p => Sys2Proof.Machine.execSbcHlPair p s
  | .adcHlPair p => Sys2Proof.Machine.execAdcHlPair p s
  | .ldMemNnPair nn p => Sys2Proof.Machine.execLdMemNnPair nn p s
  | .ldPairMemNn p nn => Sys2Proof.Machine.execLdPairMemNn p nn s
  | .neg => Sys2Proof.Machine.execNeg s
  | .retn => Sys2Proof.Machine.execRetn s
  | .reti => Sys2Proof.Machine.execReti s
  | .im0 => Sys2Proof.Machine.execIm0 s
  | .im1 => Sys2Proof.Machine.execIm1 s
  | .im2 => Sys2Proof.Machine.execIm2 s
  | .ldIA => Sys2Proof.Machine.execLdIA s
  | .ldRA => Sys2Proof.Machine.execLdRA s
  | .ldAI => Sys2Proof.Machine.execLdAI s
  | .ldAR => Sys2Proof.Machine.execLdAR s
  | .rrd => Sys2Proof.Machine.execRrd s
  | .rld => Sys2Proof.Machine.execRld s
  | .ldi => Sys2Proof.Machine.execLdi s
  | .cpi => Sys2Proof.Machine.execCpi s
  | .ini => Sys2Proof.Machine.execIni s
  | .outi => Sys2Proof.Machine.execOuti s
  | .ldd => Sys2Proof.Machine.execLdd s
  | .cpd => Sys2Proof.Machine.execCpd s
  | .ind => Sys2Proof.Machine.execInd s
  | .outd => Sys2Proof.Machine.execOutd s
  | .ldir => Sys2Proof.Machine.execLdir s
  | .cpir => Sys2Proof.Machine.execCpir s
  | .inir => Sys2Proof.Machine.execInir s
  | .otir => Sys2Proof.Machine.execOtir s
  | .lddr => Sys2Proof.Machine.execLddr s
  | .cpdr => Sys2Proof.Machine.execCpdr s
  | .indr => Sys2Proof.Machine.execIndr s
  | .otdr => Sys2Proof.Machine.execOtdr s
  | .addIxPair p => Sys2Proof.Machine.execAddIxPair p s
  | .ldIxNn nn => Sys2Proof.Machine.execLdIxNn nn s
  | .ldMemNnIx nn => Sys2Proof.Machine.execLdMemNnIx nn s
  | .incIx => Sys2Proof.Machine.execIncIx s
  | .ldIxMemNn nn => Sys2Proof.Machine.execLdIxMemNn nn s
  | .decIx => Sys2Proof.Machine.execDecIx s
  | .incMemIx d => Sys2Proof.Machine.execIncMemIx d s
  | .decMemIx d => Sys2Proof.Machine.execDecMemIx d s
  | .ldMemIxN d n => Sys2Proof.Machine.execLdMemIxN d n s
  | .ldRegMemIx r d => Sys2Proof.Machine.execLdRegMemIx r d s
  | .ldMemIxReg d r => Sys2Proof.Machine.execLdMemIxReg d r s
  | .addMemIx d => Sys2Proof.Machine.execAddMemIx d s
  | .adcMemIx d => Sys2Proof.Machine.execAdcMemIx d s
  | .subMemIx d => Sys2Proof.Machine.execSubMemIx d s
  | .sbcMemIx d => Sys2Proof.Machine.execSbcMemIx d s
  | .andMemIx d => Sys2Proof.Machine.execAndMemIx d s
  | .xorMemIx d => Sys2Proof.Machine.execXorMemIx d s
  | .orMemIx d => Sys2Proof.Machine.execOrMemIx d s
  | .cpMemIx d => Sys2Proof.Machine.execCpMemIx d s
  | .popIx => Sys2Proof.Machine.execPopIx s
  | .exMemSpIx => Sys2Proof.Machine.execExMemSpIx s
  | .pushIx => Sys2Proof.Machine.execPushIx s
  | .jpIx => Sys2Proof.Machine.execJpIx s
  | .ldSpIx => Sys2Proof.Machine.execLdSpIx s
  | .rlcMemIx d => Sys2Proof.Machine.execRlcMemIx d s
  | .rrcMemIx d => Sys2Proof.Machine.execRrcMemIx d s
  | .rlMemIx d => Sys2Proof.Machine.execRlMemIx d s
  | .rrMemIx d => Sys2Proof.Machine.execRrMemIx d s
  | .slaMemIx d => Sys2Proof.Machine.execSlaMemIx d s
  | .sraMemIx d => Sys2Proof.Machine.execSraMemIx d s
  | .srlMemIx d => Sys2Proof.Machine.execSrlMemIx d s
  | .bitMemIx b d => Sys2Proof.Machine.execBitMemIx b d s
  | .resMemIx b d => Sys2Proof.Machine.execResMemIx b d s
  | .setMemIx b d => Sys2Proof.Machine.execSetMemIx b d s
  | .addIyPair p => Sys2Proof.Machine.execAddIyPair p s
  | .ldIyNn nn => Sys2Proof.Machine.execLdIyNn nn s
  | .ldMemNnIy nn => Sys2Proof.Machine.execLdMemNnIy nn s
  | .incIy => Sys2Proof.Machine.execIncIy s
  | .ldIyMemNn nn => Sys2Proof.Machine.execLdIyMemNn nn s
  | .decIy => Sys2Proof.Machine.execDecIy s
  | .incMemIy d => Sys2Proof.Machine.execIncMemIy d s
  | .decMemIy d => Sys2Proof.Machine.execDecMemIy d s
  | .ldMemIyN d n => Sys2Proof.Machine.execLdMemIyN d n s
  | .ldRegMemIy r d => Sys2Proof.Machine.execLdRegMemIy r d s
  | .ldMemIyReg d r => Sys2Proof.Machine.execLdMemIyReg d r s
  | .addMemIy d => Sys2Proof.Machine.execAddMemIy d s
  | .adcMemIy d => Sys2Proof.Machine.execAdcMemIy d s
  | .subMemIy d => Sys2Proof.Machine.execSubMemIy d s
  | .sbcMemIy d => Sys2Proof.Machine.execSbcMemIy d s
  | .andMemIy d => Sys2Proof.Machine.execAndMemIy d s
  | .xorMemIy d => Sys2Proof.Machine.execXorMemIy d s
  | .orMemIy d => Sys2Proof.Machine.execOrMemIy d s
  | .cpMemIy d => Sys2Proof.Machine.execCpMemIy d s
  | .popIy => Sys2Proof.Machine.execPopIy s
  | .exMemSpIy => Sys2Proof.Machine.execExMemSpIy s
  | .pushIy => Sys2Proof.Machine.execPushIy s
  | .jpIy => Sys2Proof.Machine.execJpIy s
  | .ldSpIy => Sys2Proof.Machine.execLdSpIy s
  | .rlcMemIy d => Sys2Proof.Machine.execRlcMemIy d s
  | .rrcMemIy d => Sys2Proof.Machine.execRrcMemIy d s
  | .rlMemIy d => Sys2Proof.Machine.execRlMemIy d s
  | .rrMemIy d => Sys2Proof.Machine.execRrMemIy d s
  | .slaMemIy d => Sys2Proof.Machine.execSlaMemIy d s
  | .sraMemIy d => Sys2Proof.Machine.execSraMemIy d s
  | .srlMemIy d => Sys2Proof.Machine.execSrlMemIy d s
  | .bitMemIy b d => Sys2Proof.Machine.execBitMemIy b d s
  | .resMemIy b d => Sys2Proof.Machine.execResMemIy b d s
  | .setMemIy b d => Sys2Proof.Machine.execSetMemIy b d s

end Sys2Proof.Machine
end

