-- ==== Sys2Proof/Machine/CpuStep.lean ====
section
/-! DEFINITION. One call of the CPU interpreter: the boundary, the fetch, the decode, the execution (R121, R123, R530,
R531). -/

namespace Sys2Proof.Machine

/-- The decoder on the four bytes at PC. Reading a byte has no effect (R83), so the bytes beyond the instruction's length
are read without being fetched. -/
def State.decodeAtPc (s : State) : Except DecodeError Decoded :=
  decode (s.readByte s.pc) (s.readByte (s.pc + 1)) (s.readByte (s.pc + 2)) (s.readByte (s.pc + 3))

/-- R after `n` opcode fetches (R123). -/
def refreshBy : Nat → Byte → Byte
  | 0, r => r
  | n + 1, r => refreshBy n (refresh r)

/-- The state an instruction executes in: PC past its `len` bytes, R past its `m1` opcode fetches (R121, R123). -/
def State.fetched (s : State) (d : Decoded) : State :=
  { s with pc := s.pc + BitVec.ofNat 16 d.len, r := refreshBy d.m1 s.r }

/-- `Execute(Decode())` of R530: the instruction at PC, or the fatal fault with its record (R136, R500, R502). -/
def State.executeAtPc (s : State) : Host.Outcome State Fault Refusal :=
  match s.decodeAtPc with
  | .ok d => exec d.instr (s.fetched d)
  | .error e => .fault (.unsupportedOpcode .decode ⟨s.pc, e.opcode⟩)

/-- A halted step: R counts one fetch, 4 T-states (R451, R530). -/
def State.haltedStep (s : State) : Host.Outcome State Fault Refusal := finish 4 s.rInc

/-- The EI shadow ended (R454). -/
def State.endShadow (s : State) : State := { s with eiShadow := false }

/-- A step in which no interrupt is accepted: the EI shadow ends before it (R454, R530). -/
def State.ordinaryStep (s : State) : Host.Outcome State Fault Refusal :=
  if s.halted then s.endShadow.haltedStep else s.endShadow.executeAtPc

/-- `CpuStep()` (R530): NMI before INT before everything else (R517). -/
def cpuStep (s : State) : Host.Outcome State Fault Refusal :=
  if s.nmiPending then .next s.acceptNmi
  else if s.intCondition then s.acceptInt
  else s.ordinaryStep

end Sys2Proof.Machine
end

