-- ==== Sys2Proof/Machine/Unwritten.lean ====
section
/-! DEFINITION. UNWRITTEN_READ (R7, R601): what each instruction reads and writes of what may hold no value, the marks after a
step, and the CPU step under each setting of the parameter. -/

namespace Sys2Proof

open Sys2Proof.Machine

def bcLocs : List Loc := [.reg .b, .reg .c]

def deLocs : List Loc := [.reg .d, .reg .e]

def hlLocs : List Loc := [.reg .h, .reg .l]

def Pair.locs : Pair → List Loc
  | .bc => bcLocs
  | .de => deLocs
  | .hl => hlLocs
  | .sp => [.sp]

def StackPair.locs : StackPair → List Loc
  | .bc => bcLocs
  | .de => deLocs
  | .hl => hlLocs
  | .af => afLocs

def IxPair.locs : IxPair → List Loc
  | .bc => bcLocs
  | .de => deLocs
  | .ix => [.ix]
  | .sp => [.sp]

def IyPair.locs : IyPair → List Loc
  | .bc => bcLocs
  | .de => deLocs
  | .iy => [.iy]
  | .sp => [.sp]

/-- A flag test reads only the flag it tests (R601). -/
def Cond.loc : Cond → Loc
  | .nz => .flag .z
  | .z => .flag .z
  | .nc => .flag .c
  | .c => .flag .c
  | .po => .flag .pv
  | .pe => .flag .pv
  | .p => .flag .s
  | .m => .flag .s

def JrCond.loc : JrCond → Loc
  | .nz => .flag .z
  | .z => .flag .z
  | .nc => .flag .c
  | .c => .flag .c

/-- What an instruction reads of what may hold no value, in any order: as an operand, an address, a condition, a port, or a
stored byte. The exchanges read nothing (R601). -/
def Instr.reads (i : Instr) (s : State) : List Loc :=
  match i with
  | .nop | .ldPairNn _ _ | .ldHlMemNn _ | .ldAMemNn _ | .ldRegN _ _ | .scf | .exAfAf | .jr _ | .halt | .exx | .jp _
  | .exDeHl | .di | .ei | .ldPairMemNn _ _ | .im0 | .im1 | .im2 | .ldAI | .ldAR | .ldIxNn _ | .ldIxMemNn _
  | .ldIyNn _ | .ldIyMemNn _ => []
  | .addHlPair p => hlLocs ++ p.locs
  | .ldMemBcA => bcLocs ++ [.reg .a]
  | .ldMemDeA => deLocs ++ [.reg .a]
  | .ldMemNnHl _ | .incMemHl | .decMemHl | .ldMemHlN _ | .ldRegMemHl _ | .jpHl | .ldSpHl | .rlcMemHl | .rrcMemHl
  | .slaMemHl | .sraMemHl | .srlMemHl | .bitMemHl _ | .resMemHl _ | .setMemHl _ => hlLocs
  | .ldMemNnA _ | .rlca | .rrca | .cpl | .addImm _ | .subImm _ | .andImm _ | .xorImm _ | .orImm _ | .cpImm _
  | .outImmA _ | .inAImm _ | .neg | .ldIA | .ldRA => [.reg .a]
  | .ldAMemBc | .inRegC _ => bcLocs
  | .ldAMemDe => deLocs
  | .incPair p | .decPair p | .ldMemNnPair _ p => p.locs
  | .incReg r | .decReg r => [.reg r]
  | .rla | .rra | .adcImm _ | .sbcImm _ => [.reg .a, .flag .c]
  | .daa => [.reg .a, .flag .c, .flag .h, .flag .n]
  | .ccf => [.flag .c]
  | .djnz _ => [.reg .b]
  | .jrCond k _ => [k.loc]
  | .ldRegReg _ src | .rlcReg src | .rrcReg src | .slaReg src | .sraReg src | .srlReg src | .bitReg _ src
  | .resReg _ src | .setReg _ src => [.reg src]
  | .ldMemHlReg r => hlLocs ++ [.reg r]
  | .addReg src | .subReg src | .andReg src | .xorReg src | .orReg src | .cpReg src => [.reg .a, .reg src]
  | .addMemHl | .subMemHl | .andMemHl | .xorMemHl | .orMemHl | .cpMemHl => [.reg .a] ++ hlLocs
  | .adcReg src | .sbcReg src => [.reg .a, .flag .c, .reg src]
  | .adcMemHl | .sbcMemHl => [.reg .a, .flag .c] ++ hlLocs
  | .retCond cc | .callCond cc _ => if s.cond cc then [cc.loc, .sp] else [cc.loc]
  | .popPair _ | .ret | .call _ | .rst _ | .retn | .reti | .popIx | .popIy => [.sp]
  | .jpCond cc _ => [cc.loc]
  | .exMemSpHl => .sp :: hlLocs
  | .pushPair q => .sp :: q.locs
  | .rlReg src | .rrReg src => [.reg src, .flag .c]
  | .rlMemHl | .rrMemHl => .flag .c :: hlLocs
  | .outCReg r => bcLocs ++ [.reg r]
  | .sbcHlPair p | .adcHlPair p => .flag .c :: hlLocs ++ p.locs
  | .rrd | .rld => hlLocs ++ [.reg .a]
  | .ldi | .ldd | .ldir | .lddr => hlLocs ++ deLocs ++ bcLocs ++ [.reg .a]
  | .cpi | .cpd | .cpir | .cpdr => hlLocs ++ bcLocs ++ [.reg .a]
  | .ini | .outi | .ind | .outd | .inir | .otir | .indr | .otdr => hlLocs ++ bcLocs
  | .addIxPair p => .ix :: p.locs
  | .ldMemNnIx _ | .incIx | .decIx | .incMemIx _ | .decMemIx _ | .ldMemIxN _ _ | .ldRegMemIx _ _ | .jpIx | .ldSpIx
  | .rlcMemIx _ | .rrcMemIx _ | .slaMemIx _ | .sraMemIx _ | .srlMemIx _ | .bitMemIx _ _ | .resMemIx _ _
  | .setMemIx _ _ => [.ix]
  | .ldMemIxReg _ r => [.ix, .reg r]
  | .addMemIx _ | .subMemIx _ | .andMemIx _ | .xorMemIx _ | .orMemIx _ | .cpMemIx _ => [.reg .a, .ix]
  | .adcMemIx _ | .sbcMemIx _ => [.reg .a, .flag .c, .ix]
  | .exMemSpIx | .pushIx => [.sp, .ix]
  | .rlMemIx _ | .rrMemIx _ => [.ix, .flag .c]
  | .addIyPair p => .iy :: p.locs
  | .ldMemNnIy _ | .incIy | .decIy | .incMemIy _ | .decMemIy _ | .ldMemIyN _ _ | .ldRegMemIy _ _ | .jpIy | .ldSpIy
  | .rlcMemIy _ | .rrcMemIy _ | .slaMemIy _ | .sraMemIy _ | .srlMemIy _ | .bitMemIy _ _ | .resMemIy _ _
  | .setMemIy _ _ => [.iy]
  | .ldMemIyReg _ r => [.iy, .reg r]
  | .addMemIy _ | .subMemIy _ | .andMemIy _ | .xorMemIy _ | .orMemIy _ | .cpMemIy _ => [.reg .a, .iy]
  | .adcMemIy _ | .sbcMemIy _ => [.reg .a, .flag .c, .iy]
  | .exMemSpIy | .pushIy => [.sp, .iy]
  | .rlMemIy _ | .rrMemIy _ => [.iy, .flag .c]

/-- What an instruction gives a value: the registers it writes and exactly the flag bits its rule names (R601). The exchanges
are apart (`Marks.after`). -/
def Instr.writes (i : Instr) (s : State) : List Loc :=
  match i with
  | .nop | .ldMemBcA | .ldMemDeA | .ldMemNnHl _ | .ldMemNnA _ | .ldMemHlN _ | .exAfAf | .jr _ | .jrCond _ _
  | .ldMemHlReg _ | .halt | .exx | .jpHl | .jpCond _ _ | .jp _ | .outImmA _ | .exDeHl | .di | .ei
  | .resMemHl _ | .setMemHl _ | .outCReg _ | .ldMemNnPair _ _ | .im0 | .im1 | .im2 | .ldIA | .ldRA
  | .ldMemNnIx _ | .ldMemIxN _ _ | .ldMemIxReg _ _ | .jpIx | .resMemIx _ _ | .setMemIx _ _ | .ldMemNnIy _
  | .ldMemIyN _ _ | .ldMemIyReg _ _ | .jpIy | .resMemIy _ _ | .setMemIy _ _ => []
  | .ldPairNn p _ | .incPair p | .decPair p | .ldPairMemNn p _ => p.locs
  | .addHlPair _ => hlLocs ++ carryFlagLocs
  | .ldAMemBc | .ldAMemDe | .ldAMemNn _ | .inAImm _ => [.reg .a]
  | .ldHlMemNn _ | .exMemSpHl => hlLocs
  | .incReg r | .decReg r | .inRegC r => .reg r :: flagLocsButC
  | .incMemHl | .decMemHl | .bitReg _ _ | .bitMemHl _ | .incMemIx _ | .decMemIx _ | .bitMemIx _ _ | .incMemIy _
  | .decMemIy _ | .bitMemIy _ _ => flagLocsButC
  | .ldRegN r _ | .ldRegReg r _ | .ldRegMemHl r | .ldRegMemIx r _ | .ldRegMemIy r _ => [.reg r]
  | .rlca | .rrca | .rla | .rra => .reg .a :: carryFlagLocs
  | .daa => [.reg .a, .flag .s, .flag .z, .flag .y, .flag .h, .flag .x, .flag .pv, .flag .c]
  | .cpl => [.reg .a, .flag .h, .flag .n, .flag .y, .flag .x]
  | .scf | .ccf => carryFlagLocs
  | .djnz _ => [.reg .b]
  | .addReg _ | .addMemHl | .addImm _ | .adcReg _ | .adcMemHl | .adcImm _ | .subReg _ | .subMemHl | .subImm _
  | .sbcReg _ | .sbcMemHl | .sbcImm _ | .andReg _ | .andMemHl | .andImm _ | .xorReg _ | .xorMemHl | .xorImm _
  | .orReg _ | .orMemHl | .orImm _ | .neg | .addMemIx _ | .adcMemIx _ | .subMemIx _ | .sbcMemIx _ | .andMemIx _
  | .xorMemIx _ | .orMemIx _ | .addMemIy _ | .adcMemIy _ | .subMemIy _ | .sbcMemIy _ | .andMemIy _ | .xorMemIy _
  | .orMemIy _ => afLocs
  | .cpReg _ | .cpMemHl | .cpImm _ | .rlcMemHl | .rrcMemHl | .rlMemHl | .rrMemHl | .slaMemHl | .sraMemHl | .srlMemHl
  | .cpMemIx _ | .rlcMemIx _ | .rrcMemIx _ | .rlMemIx _ | .rrMemIx _ | .slaMemIx _ | .sraMemIx _ | .srlMemIx _
  | .cpMemIy _ | .rlcMemIy _ | .rrcMemIy _ | .rlMemIy _ | .rrMemIy _ | .slaMemIy _ | .sraMemIy _ | .srlMemIy _ => flagLocs
  | .popPair q => .sp :: q.locs
  | .retCond cc | .callCond cc _ => if s.cond cc then [.sp] else []
  | .ret | .ldSpHl | .pushPair _ | .call _ | .rst _ | .retn | .reti | .pushIx | .ldSpIx | .pushIy | .ldSpIy => [.sp]
  | .rlcReg src | .rrcReg src | .rlReg src | .rrReg src | .slaReg src | .sraReg src | .srlReg src => .reg src :: flagLocs
  | .resReg _ src | .setReg _ src => [.reg src]
  | .sbcHlPair _ | .adcHlPair _ => hlLocs ++ flagLocs
  | .ldAI | .ldAR | .rrd | .rld => .reg .a :: flagLocsButC
  | .ldi | .ldd | .ldir | .lddr => hlLocs ++ deLocs ++ bcLocs ++ [.flag .h, .flag .n, .flag .pv, .flag .y, .flag .x]
  | .cpi | .cpd | .cpir | .cpdr => hlLocs ++ bcLocs ++ flagLocsButC
  | .ini | .outi | .ind | .outd | .inir | .otir | .indr | .otdr => .reg .b :: hlLocs ++ flagLocs
  | .addIxPair _ => .ix :: carryFlagLocs
  | .ldIxNn _ | .incIx | .ldIxMemNn _ | .decIx | .exMemSpIx => [.ix]
  | .popIx => [.sp, .ix]
  | .addIyPair _ => .iy :: carryFlagLocs
  | .ldIyNn _ | .incIy | .ldIyMemNn _ | .decIy | .exMemSpIy => [.iy]
  | .popIy => [.sp, .iy]

/-! ## The marks after a step -/

/-- The first of these that holds no value. -/
def Marks.firstUnwritten (m : Marks) (locs : List Loc) : Option Loc := locs.find? fun l => decide (l ∈ m.unwritten)

/-- These hold a value now. -/
def Marks.written (m : Marks) (locs : List Loc) : Marks :=
  .of (fun l => decide (l ∈ m.unwritten ∧ l ∉ locs)) fun l => decide (l ∈ m.shadow)

/-- The marks of `locs` exchanged with the shadow's (R437, R438). -/
def Marks.exchanged (m : Marks) (locs : List Loc) : Marks :=
  .of (fun l => if l ∈ locs then decide (l ∈ m.shadow) else decide (l ∈ m.unwritten))
    fun l => if l ∈ locs then decide (l ∈ m.unwritten) else decide (l ∈ m.shadow)

/-- D and E for H and L and the reverse (R436). -/
def Loc.swapDeHl : Loc → Loc
  | .reg .d => .reg .h
  | .reg .e => .reg .l
  | .reg .h => .reg .d
  | .reg .l => .reg .e
  | l => l

/-- The marks of DE exchanged with those of HL (R436). -/
def Marks.swappedDeHl (m : Marks) : Marks :=
  .of (fun l => decide (l.swapDeHl ∈ m.unwritten)) fun l => decide (l ∈ m.shadow)

/-- The marks after an instruction: the exchanges move marks, every other one clears those of what it writes (R601). -/
def Marks.after (m : Marks) (i : Instr) (s : State) : Marks :=
  match i with
  | .exAfAf => m.exchanged afLocs
  | .exx => m.exchanged exxLocs
  | .exDeHl => m.swappedDeHl
  | i => m.written (i.writes s)

namespace Machine

/-- What the next CPU step reads of what may hold no value: an acceptance that pushes reads SP, a halted step and a fault read
nothing, an instruction reads what its rule reads (R601). -/
def State.stepReads (s : State) : List Loc :=
  if s.nmiPending then [.sp]
  else if s.intCondition then if s.im = .im0 ∧ isRestart s.busByte = false then [] else [.sp]
  else if s.halted then []
  else
    match s.decodeAtPc with
    | .ok d => d.instr.reads s
    | .error _ => []

/-- The marks after the next CPU step; an acceptance writes SP (R601). -/
def State.stepMarks (s : State) : Marks :=
  if s.nmiPending || s.intCondition then s.marks.written [.sp]
  else if s.halted then s.marks
  else
    match s.decodeAtPc with
    | .ok d => s.marks.after d.instr s
    | .error _ => s.marks

/-- The state with the marks it has after the next CPU step. No instruction and no acceptance looks at the marks, so that they
can be moved on before the step. -/
def State.moveMarks (s : State) : State := { s with marks := s.stepMarks }

/-- What a step under a setting of UNWRITTEN_READ comes to. The model fault is apart from the machine's own outcomes: it is not
a behaviour of the chip, sets no fault record, and has no successor state (R500, R601). -/
inductive ModelOutcome
  /-- The machine runs the step, and this is what it comes to. -/
  | machine (outcome : Host.Outcome State Fault Refusal)
  /-- The model fault `UnwrittenRead(register)`. -/
  | unwrittenRead (register : Loc)

/-- The register whose read is the model fault, if the next CPU step reads one that holds no value (R601). -/
def State.unwrittenRead (setting : UnwrittenRead) (s : State) : Option Loc :=
  match setting with
  | .fault => s.marks.firstUnwritten s.stepReads
  | .draw => none

/-- A step from `s` with this outcome, under a setting of UNWRITTEN_READ (R601). -/
def State.under (setting : UnwrittenRead) (s : State) (outcome : Host.Outcome State Fault Refusal) : ModelOutcome :=
  match s.unwrittenRead setting with
  | some l => .unwrittenRead l
  | none => .machine outcome

/-- `CpuStep()` under a setting of UNWRITTEN_READ (R530, R601). -/
def cpuStepUnder (setting : UnwrittenRead) (s : State) : ModelOutcome := s.under setting (cpuStep s.moveMarks)

end Machine

end Sys2Proof
end

