-- ==== Sys2Proof/Machine/Scheduler.lean ====
section
/-! DEFINITION. The Console Scheduler: the frame counter, one iteration of the Run loop, the fault record and its text, and
Run itself (R502, R503, R542 to R551). -/

namespace Sys2Proof.Machine

/-! ## Frame boundaries (R550, R551) -/

/-- What the frame loop reads and writes. -/
structure FrameView where
  acc : Nat
  powered : Bool
  callbackOff : List Bool
  asyncOff : List Bool
  draws : Nat
  events : List Event
  stopped : Bool
  deriving DecidableEq, Repr

/-- What the frame loop sees of a state. -/
def State.frameView (s : State) : FrameView := ⟨s.frameAcc, s.powered, s.callbackOff, s.asyncOff, s.draws, s.events, false⟩

/-- Whether the callback calls PowerOff now: the decision lined up, else a free one (R551). -/
def FrameView.callsPowerOff (v : FrameView) : Bool := v.callbackOff.head?.getD (Config.callbackPowersOff v.draws)

/-- The callback at a boundary, if one is attached: it may call PowerOff and do nothing else (R551). -/
def FrameView.callBack (callback : Option Nat) (v : FrameView) : FrameView :=
  match callback with
  | none => v
  | some handle =>
    { v with
      powered := v.powered && !v.callsPowerOff
      callbackOff := v.callbackOff.tail
      draws := v.draws + 1
      events := v.events ++ [.frame handle] }

/-- An asynchronous PowerOff that lands since the flag was last read (R545): the environment's decision for this reading, no
PowerOff where none is lined up. -/
def FrameView.landPowerOff (v : FrameView) : FrameView :=
  { v with powered := v.powered && !v.asyncOff.head?.getD false, asyncOff := v.asyncOff.tail }

/-- One turn of the `while` of R542 up to its reading of the power flag: a boundary off the count, the callback, and what has
landed meanwhile from the asynchronous context. -/
def FrameView.boundary (frameCycles : Nat) (callback : Option Nat) (v : FrameView) : FrameView :=
  ({ v with acc := v.acc - frameCycles }.callBack callback).landPowerOff

/-- The `while` of R542: every boundary the count has reached, until the power flag is found clear. Each turn takes
`frameCycles` off the count, so a fuel of the count itself suffices. -/
def frameLoop (frameCycles : Nat) (callback : Option Nat) : Nat → FrameView → FrameView
  | 0, v => v
  | fuel + 1, v =>
    if v.acc < frameCycles then v
    else
      let after := v.boundary frameCycles callback
      if after.powered then frameLoop frameCycles callback fuel after else { after with stopped := true }

/-- The frame loop's results in the state; where it stopped, Run has returned. -/
def State.withFrameView (s : State) (v : FrameView) : State :=
  { s with
    frameAcc := v.acc
    powered := v.powered
    callbackOff := v.callbackOff
    asyncOff := v.asyncOff
    draws := v.draws
    events := v.events
    runState := if v.stopped then .idle else s.runState }

/-- All frame boundaries the count has reached. -/
def State.crossFrames (frameCycles : Nat) (s : State) : State :=
  s.withFrameView (frameLoop frameCycles s.callback s.frameAcc s.frameView)

/-- `Tick(n)` and the count of its `n` T-states (R542, R544). -/
def State.tick (s : State) (n : Nat) : State :=
  { s with events := s.events ++ [.tick n], frameAcc := s.frameAcc + n }

/-! ## One iteration of the Run loop (R542) -/

/-- `run_state <- running` (R542). -/
def State.enterRun (s : State) : State := { s with runState := .running }

/-- Run returns at its entry: the power flag is clear, or a fault is recorded (R504, R546). -/
def State.runReturnsAtOnce (s : State) : Bool := !s.powered || s.fault.isSome

/-- What follows a CPU step that returned: its T-states, which are the growth of `cycles`, are handed out and counted. -/
def State.afterCpuStep (frameCycles : Nat) (before after : State) : State :=
  (after.tick (after.cycles - before.cycles)).crossFrames frameCycles

/-- The body of the loop of R542; every register is read, written or not. -/
def State.loopBody (frameCycles : Nat) (s : State) : Host.Outcome State Fault Refusal :=
  match cpuStep s.moveMarks with
  | .next t => .next (State.afterCpuStep frameCycles s t)
  | .fault f => .fault f
  | .refused r => .refused r

/-- One step of the machine. While `run_state` is idle the host calls Run, which returns at once or enters its loop; while
it is running, the loop goes round once. The parameter FRAME_CYCLES is an argument (R7). -/
def State.turn (frameCycles : Nat) (s : State) : Host.Outcome State Fault Refusal :=
  match s.runState with
  | .idle => if s.runReturnsAtOnce then .next s else s.enterRun.loopBody frameCycles
  | .running => s.loopBody frameCycles

/-- That step under a setting of UNWRITTEN_READ (R7, R601); where Run returns at its entry nothing is read. -/
def runIteration (setting : UnwrittenRead) (frameCycles : Nat) (s : State) : ModelOutcome :=
  if s.runState = .idle ∧ s.runReturnsAtOnce then .machine (s.turn frameCycles) else s.under setting (s.turn frameCycles)

/-! ## The fault record and the diagnostic text (R502, R503) -/

/-- The character of one hexadecimal digit; the letters are capitals (log 13). -/
def hexDigit (k : BitVec 4) : Byte := if k.toNat < 10 then BitVec.ofNat 8 (48 + k.toNat) else BitVec.ofNat 8 (55 + k.toNat)

/-- A byte as two hexadecimal digits. -/
def hexByte (v : Byte) : List Byte := [hexDigit (highNibble v), hexDigit (lowNibble v)]

/-- A word as four hexadecimal digits. -/
def hexWord (w : Word) : List Byte := hexByte (hi8 w) ++ hexByte (lo8 w)

/-- The digits the text must contain: the pc in four, each opcode byte in two (R503). -/
def FaultRecord.digits (rec : FaultRecord) : List Byte := hexWord rec.pc ++ (rec.opcode.map hexByte).flatten

/-- The text of a record, at most DIAG_LEN - 1 characters and none of them NUL: open wording, as much as there is room for,
then the digits (R503, D23). -/
def FaultRecord.text (rec : FaultRecord) : List Byte :=
  ((Config.diagWording rec.pc rec.opcode).filter (· != 0)).take (Config.diagLen - 1 - rec.digits.length) ++ rec.digits

/-- The state in which Run leaves the CORE after the fatal fault (R501, R502): the record and its text are set and `run_state`
is idle. PC and R are free; after the mode-0 fault so are IFF1, IFF2 and `halted`. -/
def State.recordFault (s : State) (cause : FaultCause) (rec : FaultRecord) : State :=
  let stopped :=
    { s with
      pc := Config.freeWord s.draws
      r := s.freeByte
      fault := some rec
      diag := rec.text
      runState := .idle
      draws := s.draws + 1 }
  match cause with
  | .decode => stopped
  | .busByte =>
    { stopped with
      iff1 := (Config.freeByte (s.draws + 1)).getLsbD 0
      iff2 := (Config.freeByte (s.draws + 1)).getLsbD 1
      halted := (Config.freeByte (s.draws + 1)).getLsbD 2
      draws := s.draws + 2 }

/-- The diagnostic accessor: null, or the text with its closing NUL (R503). -/
def State.diagnostic (s : State) : Option (List Byte) :=
  match s.fault with
  | none => none
  | some _ => some (s.diag ++ [0])

/-! ## Run (R542, R546) -/

/-- What a call of Run has come to after a number of loop turns. -/
inductive RunResult
  /-- Run has returned (R546). -/
  | returned (s : State)
  /-- Run is still in its loop. -/
  | running (s : State)
  /-- The model fault: a step read a register that holds no value, and has no successor state (R500, R601). -/
  | unwrittenRead (register : Loc)
  /-- Run was called while it runs (R563). No step gives a refusal. -/
  | refused (r : Refusal)
  deriving DecidableEq, Repr

/-- The Run loop from inside, for at most `fuel` turns. -/
def runLoop (setting : UnwrittenRead) (frameCycles : Nat) : Nat → State → RunResult
  | 0, s => .running s
  | fuel + 1, s =>
    match s.under setting (s.loopBody frameCycles) with
    | .machine (.next t) =>
      match t.runState with
      | .idle => .returned t
      | .running => runLoop setting frameCycles fuel t
    | .machine (.fault (.unsupportedOpcode cause rec)) => .returned (s.recordFault cause rec)
    | .machine (.refused r) => .refused r
    | .unwrittenRead register => .unwrittenRead register

/-- `Run()` for at most `fuel` steps; Run is not reentrant (R551, R563). -/
def run (setting : UnwrittenRead) (frameCycles fuel : Nat) (s : State) : RunResult :=
  match s.runState with
  | .running => .refused (.hostActionWhileRunning .run)
  | .idle =>
    if s.runReturnsAtOnce then .returned s else runLoop setting frameCycles fuel s.enterRun

end Sys2Proof.Machine
end

