-- ==== Sys2Proof/Machine/Console.lean ====
section
/-! DEFINITION. What the host and the environment can do to the machine between its steps (R71 to R74, R518, R540, R545,
R560 to R563, R600 to R603), and the placing of an instruction where the next step fetches it. -/

namespace Sys2Proof.Machine

/-! ## The cartridge (R71 to R73) -/

/-- `rom_banks[j] <- bank(j mod n)` for every `j` (R72). -/
def bankTable (n : Nat) : Vector (Option (Fin 64)) 64 :=
  ⟨((List.range 64).map fun j => some (Fin.ofNat 64 (j % n))).toArray, by simp⟩

/-- `Mount(data, size)`: no effect for a size that is 0 or no multiple of the bank size (R71), else the whole table and the
image are replaced (R72). `data` is given by offset; an offset it does not list holds `Memory.blank`, one at or beyond `size`
is dropped. -/
def State.mount (s : State) (size : Nat) (data : List Host.Cell) : State :=
  if size == 0 || size % bankSize != 0 then s
  else
    { s with
      romBanks := bankTable (size / bankSize)
      cart := ⟨size / bankSize, Memory.ofCells (data.filter fun cell => cell.1 < size)⟩ }

/-! ## Power (R74, R540, R545, R600) -/

/-- The registers to which CpuReset gives no value (R601). -/
structure DrawnRegisters where
  regs : RegFile
  shadow : RegFile
  ix : Word
  iy : Word
  sp : Word
  deriving DecidableEq, Repr

/-- The values the model names for them: zeros. DESIGN CHOICE (log 1), unsafe. -/
def DrawnRegisters.named : DrawnRegisters := ⟨.zero, .zero, 0, 0, 0⟩

/-- The Memory Unit's PowerOn (R74). -/
def State.memoryPowerOn (s : State) : State := { s with slots := ⟨0, 1, 2⟩, ram := [] }

/-- `CpuReset()` (R600). The registers it leaves without a value carry the marks of R601; what is drawn for them is what a
read finds there under UNWRITTEN_READ = `draw`. -/
def State.cpuReset (s : State) (drawn : DrawnRegisters) : State :=
  { s with
    regs := drawn.regs
    shadow := drawn.shadow
    ix := drawn.ix
    iy := drawn.iy
    sp := drawn.sp
    pc := 0x0000
    i := 0x00
    r := 0x00
    iff1 := false
    iff2 := false
    im := .im0
    halted := false
    eiShadow := false
    nmiPending := false
    cycles := 0
    marks := .reset }

/-- The console's `PowerOn()` (R540, R602). -/
def State.powerOn (s : State) (drawn : DrawnRegisters) : State :=
  { s.memoryPowerOn.cpuReset drawn with fault := none, diag := [], frameAcc := 0, powered := true }

/-- `PowerOff()`, from any context between two steps: the flag and nothing else (R545). One that lands inside a step is
lined up with `State.lineUpPowerOff`. -/
def State.powerOff (s : State) : State := { s with powered := false }

/-- The state at session creation (R603). What the spec leaves unspecified there is as at reset (log 20). -/
def State.session : State := { State.reset with powered := false }

/-! ## The environment (R518, R560) -/

/-- `SetIntLine(v)` (R518). -/
def State.setIntLine (s : State) (v : Bool) : State := { s with intLine := v }

/-- The byte the environment will put on the bus at an acknowledge (R510). -/
def State.setBusByte (s : State) (b : Byte) : State := { s with busByte := b }

/-- `RequestNMI()` (R518). -/
def State.requestNmi (s : State) : State := { s with nmiPending := true }

/-- The environment lines up its answer to one more IORead (R111). -/
def State.lineUpIoAnswer (s : State) (v : Byte) : State := { s with ioAnswers := s.ioAnswers ++ [v] }

/-- The callback's decision at one more boundary is lined up (R551). -/
def State.lineUpCallback (s : State) (callsPowerOff : Bool) : State :=
  { s with callbackOff := s.callbackOff ++ [callsPowerOff] }

/-- The environment lines up whether an asynchronous PowerOff lands before one more reading of the power flag (R545). -/
def State.lineUpPowerOff (s : State) (lands : Bool) : State := { s with asyncOff := s.asyncOff ++ [lands] }

/-- What the host and the environment can do between two steps (R560, R562), Run itself apart. -/
inductive HostAction
  | mount (size : Nat) (data : List Host.Cell)
  | attachDisplay (buffer : Option Nat)
  | attachCallback (callback : Option Nat)
  | powerOn (drawn : DrawnRegisters)
  | powerOff
  | setIntLine (v : Bool)
  | setBusByte (b : Byte)
  | requestNmi
  | lineUpIoAnswer (v : Byte)
  | lineUpCallback (callsPowerOff : Bool)
  | lineUpPowerOff (lands : Bool)
  deriving DecidableEq, Repr

/-- An action that is defined only while `run_state` is idle (R562, R563). -/
def State.whileIdle (s : State) (action : IdleAction) (t : State) : Host.Outcome State Fault Refusal :=
  match s.runState with
  | .idle => .next t
  | .running => .refused (.hostActionWhileRunning action)

/-- The effect of an action. -/
def State.act (s : State) : HostAction → Host.Outcome State Fault Refusal
  | .mount size data => s.whileIdle .mount (s.mount size data)
  | .attachDisplay buffer => s.whileIdle .attachDisplay { s with displayBuffer := buffer }
  | .attachCallback callback => s.whileIdle .attachCallback { s with callback := callback }
  | .powerOn drawn => s.whileIdle .powerOn (s.powerOn drawn)
  | .powerOff => .next s.powerOff
  | .setIntLine v => .next (s.setIntLine v)
  | .setBusByte b => .next (s.setBusByte b)
  | .requestNmi => .next s.requestNmi
  | .lineUpIoAnswer v => .next (s.lineUpIoAnswer v)
  | .lineUpCallback off => .next (s.lineUpCallback off)
  | .lineUpPowerOff lands => .next (s.lineUpPowerOff lands)

/-! ## Placing an instruction where the next step fetches it (log 18) -/

/-- One byte put at what an address resolves to: into system RAM, or into the image, as an external loader would supply
it. -/
def State.poke (s : State) (addr : Word) (v : Byte) : State :=
  match s.resolve addr with
  | .ram index => { s with ram := s.ram.write index v }
  | .rom (some b) offset => { s with cart := { s.cart with bytes := s.cart.bytes.write (b.val * bankSize + offset) v } }
  | .rom none _ => s

/-- An address resolves to a byte that exists. -/
def State.hasByte (s : State) (addr : Word) : Bool :=
  match s.resolve addr with
  | .rom none _ => false
  | _ => true

/-- A blank image of one bank mounted, where one of the four bytes at PC would be read from an unset bank. -/
def State.withCartridge (s : State) : State :=
  if s.hasByte s.pc && s.hasByte (s.pc + 1) && s.hasByte (s.pc + 2) && s.hasByte (s.pc + 3) then s
  else { s with romBanks := Vector.replicate 64 (some 0), cart := ⟨1, []⟩ }

/-- Four bytes placed at PC. -/
def State.pokeFour (s : State) (b0 b1 b2 b3 : Byte) : State :=
  (((s.poke s.pc b0).poke (s.pc + 1) b1).poke (s.pc + 2) b2).poke (s.pc + 3) b3

/-- A console in which the next step fetches at PC: powered, without a fault, not halted, with no interrupt to take. -/
def State.readyToFetch (s : State) : State :=
  { s with powered := true, fault := none, diag := [], halted := false, nmiPending := false, intLine := false }

end Sys2Proof.Machine
end

