-- ==== Sys2Proof/Machine/Step.lean ====
section
/-! DEFINITION. The step of the machine, and the placing of an instruction where it fetches. -/

namespace Sys2Proof.Machine

/-- One iteration of the Run loop with the machine's frame length, under a setting of UNWRITTEN_READ (R7, R542, R601,
log 9). -/
def stepUnder (setting : UnwrittenRead) (s : State) : ModelOutcome := runIteration setting Config.frameCycles s

/-- The machine's step: a register that holds no value reads as the one drawn for it, so that a program can run from reset
(R601 under `draw`, log 2). -/
def step (s : State) : Host.Outcome State Fault Refusal := s.turn Config.frameCycles

/-- The instruction whose bits are `w`, numbered as spec/opcode_table.json numbers them, placed where the next step fetches
(log 17, log 18). -/
def State.withFetchWord (s : State) (nbits w : Nat) : State :=
  s.readyToFetch.withCartridge.pokeFour (tableByte nbits w 0) (tableByte nbits w 1) (tableByte nbits w 2)
    (tableByte nbits w 3)

end Sys2Proof.Machine
end

