-- ==== Sys2Proof/Safety.lean ====
section
/-! DEFINITION. The terms in which claims about the machine are stated: the parts of the state and what it is to leave them
unchanged, what a store disturbs, the documented timing table, what every state of a session keeps, and the fatal
encodings. None of it is used by the machine. -/

namespace Sys2Proof

open Sys2Proof.Machine

/-! ## Parts of the state, for frames -/

/-- The parts of the state. `memory` is every byte of system RAM, and the reading of every address. -/
inductive Part
  | reg (r : Reg8)
  | f
  | shadow
  | ix
  | iy
  | sp
  | pc
  | iReg
  | rReg
  | iff1
  | iff2
  | im
  | halted
  | eiShadow
  | nmiPending
  | cycles
  | marks
  | memory
  | slots
  | romBanks
  | cart
  | powered
  | fault
  | diag
  | frameAcc
  | callback
  | displayBuffer
  | runState
  | intLine
  | busByte
  | ioAnswers
  | callbackOff
  | asyncOff
  | events
  | draws
  deriving DecidableEq, Repr

/-- Two states agree on a part. -/
def Part.same (p : Part) (s t : State) : Prop :=
  match p with
  | .reg r => t.reg8 r = s.reg8 r
  | .f => t.regs.f = s.regs.f
  | .shadow => t.shadow = s.shadow
  | .ix => t.ix = s.ix
  | .iy => t.iy = s.iy
  | .sp => t.sp = s.sp
  | .pc => t.pc = s.pc
  | .iReg => t.i = s.i
  | .rReg => t.r = s.r
  | .iff1 => t.iff1 = s.iff1
  | .iff2 => t.iff2 = s.iff2
  | .im => t.im = s.im
  | .halted => t.halted = s.halted
  | .eiShadow => t.eiShadow = s.eiShadow
  | .nmiPending => t.nmiPending = s.nmiPending
  | .cycles => t.cycles = s.cycles
  | .marks => t.marks = s.marks
  | .memory => t.ram = s.ram ∧ ∀ a, t.readByte a = s.readByte a
  | .slots => t.slots = s.slots
  | .romBanks => t.romBanks = s.romBanks
  | .cart => t.cart = s.cart
  | .powered => t.powered = s.powered
  | .fault => t.fault = s.fault
  | .diag => t.diag = s.diag
  | .frameAcc => t.frameAcc = s.frameAcc
  | .callback => t.callback = s.callback
  | .displayBuffer => t.displayBuffer = s.displayBuffer
  | .runState => t.runState = s.runState
  | .intLine => t.intLine = s.intLine
  | .busByte => t.busByte = s.busByte
  | .ioAnswers => t.ioAnswers = s.ioAnswers
  | .callbackOff => t.callbackOff = s.callbackOff
  | .asyncOff => t.asyncOff = s.asyncOff
  | .events => t.events = s.events
  | .draws => t.draws = s.draws

/-- Nothing but the named parts has changed from `s` to `t`. -/
def UnchangedBut (touched : List Part) (s t : State) : Prop := ∀ p, p ∉ touched → p.same s t

/-- `i` completes in `s`: it answers a next state, which has spent `n` T-states, differs from `s` in nothing but the cycle
count and the named parts, and is as `post` says. -/
def Completes (i : Instr) (s : State) (n : Nat) (touched : List Part) (post : State → Prop) : Prop :=
  ∃ t, exec i s = .next t ∧ t.cycles = s.cycles + n ∧ UnchangedBut (.cycles :: touched) s t ∧ post t

/-! ## What a store disturbs (R81, R86 to R88) -/

/-- A byte written at `w` can change what reading `a` gives: both name one byte of system RAM, or `w` is the control
register of the window `a` is in. A write below 0xC000 disturbs nothing. -/
def disturbs (w a : Word) : Prop :=
  (0xC000 ≤ w.toNat ∧ 0xC000 ≤ a.toNat ∧ w.toNat % 0x2000 = a.toNat % 0x2000) ∨
  (w = 0xFFFD ∧ 0x0400 ≤ a.toNat ∧ a.toNat < 0x4000) ∨
  (w = 0xFFFE ∧ 0x4000 ≤ a.toNat ∧ a.toNat < 0x8000) ∨
  (w = 0xFFFF ∧ 0x8000 ≤ a.toNat ∧ a.toNat < 0xC000)

/-- The last byte that a list of writes, in their order, puts at an address. -/
def lastWritten (writes : List (Word × Byte)) (a : Word) : Option Byte :=
  ((writes.filter fun w => w.1 = a).getLast?).map fun w => w.2

/-- `t` is `s` with these bytes written, in their order: each accepted byte is read back, an address none of them disturbs
reads as before, and each window holds the low six bits of the last byte written to its control register. -/
def Stored (writes : List (Word × Byte)) (s t : State) : Prop :=
  (∀ w ∈ writes, 0xC000 ≤ w.1.toNat → t.readByte w.1 = w.2) ∧
  (∀ a, (∀ w ∈ writes, ¬ disturbs w.1 a) → t.readByte a = s.readByte a) ∧
  t.slots.slot0.toNat = ((lastWritten writes 0xFFFD).map fun v => v.toNat % 64).getD s.slots.slot0.toNat ∧
  t.slots.slot1.toNat = ((lastWritten writes 0xFFFE).map fun v => v.toNat % 64).getD s.slots.slot1.toNat ∧
  t.slots.slot2.toNat = ((lastWritten writes 0xFFFF).map fun v => v.toNat % 64).getD s.slots.slot2.toNat

/-! ## What each instruction touches, stores to, and costs -/

/-- The parts a pair's halves are. -/
def Pair.parts : Pair → List Part
  | .bc => [.reg .b, .reg .c]
  | .de => [.reg .d, .reg .e]
  | .hl => [.reg .h, .reg .l]
  | .sp => [.sp]

def StackPair.parts : StackPair → List Part
  | .bc => [.reg .b, .reg .c]
  | .de => [.reg .d, .reg .e]
  | .hl => [.reg .h, .reg .l]
  | .af => [.reg .a, .f]

/-- The parts of the state an instruction's rule names, the cycle count apart. -/
def Instr.touches (i : Instr) : List Part :=
  match i with
  | .nop => []
  | .ldPairNn p _ | .incPair p | .decPair p | .ldPairMemNn p _ => p.parts
  | .addHlPair _ | .sbcHlPair _ | .adcHlPair _ => .f :: Pair.hl.parts
  | .ldMemBcA | .ldMemDeA | .ldMemNnHl _ | .ldMemNnA _ | .ldMemHlN _ | .ldMemHlReg _ | .resMemHl _ | .setMemHl _
  | .ldMemNnPair _ _ | .ldMemNnIx _ | .ldMemIxN _ _ | .ldMemIxReg _ _ | .resMemIx _ _ | .setMemIx _ _ | .ldMemNnIy _
  | .ldMemIyN _ _ | .ldMemIyReg _ _ | .resMemIy _ _ | .setMemIy _ _ => [.memory, .slots]
  | .ldAMemBc | .ldAMemDe | .ldAMemNn _ => [.reg .a]
  | .ldHlMemNn _ => Pair.hl.parts
  | .incReg r | .decReg r => [.reg r, .f]
  | .incMemHl | .decMemHl | .rlcMemHl | .rrcMemHl | .rlMemHl | .rrMemHl | .slaMemHl | .sraMemHl | .srlMemHl
  | .incMemIx _ | .decMemIx _ | .rlcMemIx _ | .rrcMemIx _ | .rlMemIx _ | .rrMemIx _ | .slaMemIx _ | .sraMemIx _
  | .srlMemIx _ | .incMemIy _ | .decMemIy _ | .rlcMemIy _ | .rrcMemIy _ | .rlMemIy _ | .rrMemIy _ | .slaMemIy _
  | .sraMemIy _ | .srlMemIy _ => [.f, .memory, .slots]
  | .ldRegN r _ | .ldRegReg r _ | .ldRegMemHl r | .ldRegMemIx r _ | .ldRegMemIy r _ => [.reg r]
  | .rlca | .rrca | .rla | .rra | .daa | .cpl | .addReg _ | .addMemHl | .addImm _ | .adcReg _ | .adcMemHl | .adcImm _
  | .subReg _ | .subMemHl | .subImm _ | .sbcReg _ | .sbcMemHl | .sbcImm _ | .andReg _ | .andMemHl | .andImm _
  | .xorReg _ | .xorMemHl | .xorImm _ | .orReg _ | .orMemHl | .orImm _ | .neg | .ldAI | .ldAR | .addMemIx _
  | .adcMemIx _ | .subMemIx _ | .sbcMemIx _ | .andMemIx _ | .xorMemIx _ | .orMemIx _ | .addMemIy _ | .adcMemIy _
  | .subMemIy _ | .sbcMemIy _ | .andMemIy _ | .xorMemIy _ | .orMemIy _ => [.reg .a, .f]
  | .scf | .ccf | .bitMemHl _ => [.f, .draws]
  | .exAfAf => [.reg .a, .f, .shadow]
  | .djnz _ => [.reg .b, .pc]
  | .jr _ | .jrCond _ _ | .jpHl | .jpCond _ _ | .jp _ | .jpIx | .jpIy => [.pc]
  | .halt => [.halted]
  | .cpReg _ | .cpMemHl | .cpImm _ | .bitReg _ _ | .cpMemIx _ | .bitMemIx _ _ | .cpMemIy _ | .bitMemIy _ _ => [.f]
  | .retCond _ | .ret => [.pc, .sp]
  | .popPair q => .sp :: q.parts
  | .exx => .shadow :: (Pair.bc.parts ++ Pair.de.parts ++ Pair.hl.parts)
  | .ldSpHl | .ldSpIx | .ldSpIy => [.sp]
  | .outImmA _ | .outCReg _ => [.events]
  | .inAImm _ => [.reg .a, .ioAnswers, .events, .draws]
  | .exMemSpHl => [.reg .h, .reg .l, .memory, .slots]
  | .exDeHl => Pair.de.parts ++ Pair.hl.parts
  | .di => [.iff1, .iff2]
  | .ei => [.iff1, .iff2, .eiShadow]
  | .callCond _ _ | .call _ | .rst _ => [.pc, .sp, .memory, .slots]
  | .pushPair _ | .pushIx | .pushIy => [.sp, .memory, .slots]
  | .rlcReg src | .rrcReg src | .rlReg src | .rrReg src | .slaReg src | .sraReg src | .srlReg src => [.reg src, .f]
  | .resReg _ src | .setReg _ src => [.reg src]
  | .inRegC r => [.reg r, .f, .ioAnswers, .events, .draws]
  | .retn | .reti => [.pc, .sp, .iff1]
  | .im0 | .im1 | .im2 => [.im]
  | .ldIA => [.iReg]
  | .ldRA => [.rReg]
  | .rrd | .rld => [.reg .a, .f, .memory, .slots]
  | .ldi | .ldd => .f :: .memory :: .slots :: (Pair.bc.parts ++ Pair.de.parts ++ Pair.hl.parts)
  | .cpi | .cpd => .f :: (Pair.bc.parts ++ Pair.hl.parts)
  | .ini | .ind => [.reg .b, .reg .h, .reg .l, .f, .memory, .slots, .ioAnswers, .events, .draws]
  | .outi | .outd => [.reg .b, .reg .h, .reg .l, .f, .events, .draws]
  | .ldir | .lddr => .pc :: .draws :: .f :: .memory :: .slots :: (Pair.bc.parts ++ Pair.de.parts ++ Pair.hl.parts)
  | .cpir | .cpdr => .pc :: .draws :: .f :: (Pair.bc.parts ++ Pair.hl.parts)
  | .inir | .indr => [.pc, .reg .b, .reg .h, .reg .l, .f, .memory, .slots, .ioAnswers, .events, .draws]
  | .otir | .otdr => [.pc, .reg .b, .reg .h, .reg .l, .f, .events, .draws]
  | .addIxPair _ => [.ix, .f]
  | .ldIxNn _ | .incIx | .ldIxMemNn _ | .decIx => [.ix]
  | .popIx => [.ix, .sp]
  | .exMemSpIx => [.ix, .memory, .slots]
  | .addIyPair _ => [.iy, .f]
  | .ldIyNn _ | .incIy | .ldIyMemNn _ | .decIy => [.iy]
  | .popIy => [.iy, .sp]
  | .exMemSpIy => [.iy, .memory, .slots]

/-- The flags that the Flags line of an instruction's rule names: R15 leaves every other one unchanged. -/
def Instr.flagsNamed (i : Instr) : List FlagName :=
  match i with
  | .nop | .ldPairNn _ _ | .ldMemBcA | .ldMemDeA | .ldMemNnHl _ | .ldMemNnA _ | .ldAMemBc | .ldAMemDe | .ldHlMemNn _
  | .ldAMemNn _ | .incPair _ | .decPair _ | .ldRegN _ _ | .ldMemHlN _ | .djnz _ | .jr _ | .jrCond _ _ | .ldRegReg _ _
  | .ldRegMemHl _ | .ldMemHlReg _ | .halt | .retCond _ | .ret | .exx | .jpHl | .ldSpHl | .jpCond _ _ | .jp _
  | .outImmA _ | .inAImm _ | .exMemSpHl | .exDeHl | .di | .ei | .callCond _ _ | .pushPair _ | .call _ | .rst _
  | .resReg _ _ | .resMemHl _ | .setReg _ _ | .setMemHl _ | .outCReg _ | .ldMemNnPair _ _ | .ldPairMemNn _ _ | .retn
  | .reti | .im0 | .im1 | .im2 | .ldIA | .ldRA | .ldIxNn _ | .ldMemNnIx _ | .incIx | .ldIxMemNn _ | .decIx
  | .ldMemIxN _ _ | .ldRegMemIx _ _ | .ldMemIxReg _ _ | .popIx | .exMemSpIx | .pushIx | .jpIx | .ldSpIx
  | .resMemIx _ _ | .setMemIx _ _ | .ldIyNn _ | .ldMemNnIy _ | .incIy | .ldIyMemNn _ | .decIy | .ldMemIyN _ _
  | .ldRegMemIy _ _ | .ldMemIyReg _ _ | .popIy | .exMemSpIy | .pushIy | .jpIy | .ldSpIy | .resMemIy _ _
  | .setMemIy _ _ => []
  | .addHlPair _ | .rlca | .rrca | .rla | .rra | .scf | .ccf | .addIxPair _ | .addIyPair _ => [.y, .h, .x, .n, .c]
  | .incReg _ | .incMemHl | .decReg _ | .decMemHl | .bitReg _ _ | .bitMemHl _ | .inRegC _ | .ldAI | .ldAR | .rrd
  | .rld | .cpi | .cpd | .cpir | .cpdr | .incMemIx _ | .decMemIx _ | .bitMemIx _ _ | .incMemIy _ | .decMemIy _
  | .bitMemIy _ _ => [.s, .z, .y, .h, .x, .pv, .n]
  | .daa => [.s, .z, .y, .h, .x, .pv, .c]
  | .cpl => [.y, .h, .x, .n]
  | .exAfAf | .addReg _ | .addMemHl | .addImm _ | .adcReg _ | .adcMemHl | .adcImm _ | .subReg _ | .subMemHl
  | .subImm _ | .sbcReg _ | .sbcMemHl | .sbcImm _ | .andReg _ | .andMemHl | .andImm _ | .xorReg _ | .xorMemHl
  | .xorImm _ | .orReg _ | .orMemHl | .orImm _ | .cpReg _ | .cpMemHl | .cpImm _ | .rlcReg _ | .rlcMemHl | .rrcReg _
  | .rrcMemHl | .rlReg _ | .rlMemHl | .rrReg _ | .rrMemHl | .slaReg _ | .slaMemHl | .sraReg _ | .sraMemHl | .srlReg _
  | .srlMemHl | .sbcHlPair _ | .adcHlPair _ | .neg | .ini | .outi | .ind | .outd | .inir | .otir | .indr | .otdr
  | .addMemIx _ | .adcMemIx _ | .subMemIx _ | .sbcMemIx _ | .andMemIx _ | .xorMemIx _ | .orMemIx _ | .cpMemIx _
  | .rlcMemIx _ | .rrcMemIx _ | .rlMemIx _ | .rrMemIx _ | .slaMemIx _ | .sraMemIx _ | .srlMemIx _ | .addMemIy _
  | .adcMemIy _ | .subMemIy _ | .sbcMemIy _ | .andMemIy _ | .xorMemIy _ | .orMemIy _ | .cpMemIy _ | .rlcMemIy _
  | .rrcMemIy _ | .rlMemIy _ | .rrMemIy _ | .slaMemIy _ | .sraMemIy _ | .srlMemIy _ => [.s, .z, .y, .h, .x, .pv, .n, .c]
  | .popPair q => if q = .af then [.s, .z, .y, .h, .x, .pv, .n, .c] else []
  | .ldi | .ldd | .ldir | .lddr => [.y, .h, .x, .pv, .n]

/-- The addresses an instruction stores a byte at, in the state it executes in; a conditional call that is not taken stores
at none of them. -/
def Instr.storedAt (i : Instr) (s : State) : List Word :=
  match i with
  | .nop | .ldPairNn _ _ | .addHlPair _ | .ldAMemBc | .ldAMemDe | .ldHlMemNn _ | .ldAMemNn _ | .incPair _
  | .decPair _ | .incReg _ | .decReg _ | .ldRegN _ _ | .rlca | .rrca | .rla | .rra | .daa | .cpl | .scf | .ccf
  | .exAfAf | .djnz _ | .jr _ | .jrCond _ _ | .ldRegReg _ _ | .ldRegMemHl _ | .halt | .addReg _ | .addMemHl
  | .addImm _ | .adcReg _ | .adcMemHl | .adcImm _ | .subReg _ | .subMemHl | .subImm _ | .sbcReg _ | .sbcMemHl
  | .sbcImm _ | .andReg _ | .andMemHl | .andImm _ | .xorReg _ | .xorMemHl | .xorImm _ | .orReg _ | .orMemHl
  | .orImm _ | .cpReg _ | .cpMemHl | .cpImm _ | .retCond _ | .popPair _ | .ret | .exx | .jpHl | .ldSpHl | .jpCond _ _
  | .jp _ | .outImmA _ | .inAImm _ | .exDeHl | .di | .ei | .rlcReg _ | .rrcReg _ | .rlReg _ | .rrReg _ | .slaReg _
  | .sraReg _ | .srlReg _ | .bitReg _ _ | .bitMemHl _ | .resReg _ _ | .setReg _ _ | .inRegC _ | .outCReg _
  | .sbcHlPair _ | .adcHlPair _ | .ldPairMemNn _ _ | .neg | .retn | .reti | .im0 | .im1 | .im2 | .ldIA | .ldRA
  | .ldAI | .ldAR | .cpi | .outi | .cpd | .outd | .cpir | .otir | .cpdr | .otdr | .addIxPair _ | .ldIxNn _ | .incIx
  | .ldIxMemNn _ | .decIx | .ldRegMemIx _ _ | .addMemIx _ | .adcMemIx _ | .subMemIx _ | .sbcMemIx _ | .andMemIx _
  | .xorMemIx _ | .orMemIx _ | .cpMemIx _ | .popIx | .jpIx | .ldSpIx | .bitMemIx _ _ | .addIyPair _ | .ldIyNn _
  | .incIy | .ldIyMemNn _ | .decIy | .ldRegMemIy _ _ | .addMemIy _ | .adcMemIy _ | .subMemIy _ | .sbcMemIy _
  | .andMemIy _ | .xorMemIy _ | .orMemIy _ | .cpMemIy _ | .popIy | .jpIy | .ldSpIy | .bitMemIy _ _ => []
  | .ldMemBcA => [s.bc]
  | .ldMemDeA | .ldi | .ldd | .ldir | .lddr => [s.de]
  | .ldMemNnHl nn | .ldMemNnPair nn _ | .ldMemNnIx nn | .ldMemNnIy nn => [nn, nn + 1]
  | .ldMemNnA nn => [nn]
  | .incMemHl | .decMemHl | .ldMemHlN _ | .ldMemHlReg _ | .rlcMemHl | .rrcMemHl | .rlMemHl | .rrMemHl | .slaMemHl
  | .sraMemHl | .srlMemHl | .resMemHl _ | .setMemHl _ | .rrd | .rld | .ini | .ind | .inir | .indr => [s.hl]
  | .exMemSpHl | .exMemSpIx | .exMemSpIy => [s.sp, s.sp + 1]
  | .callCond _ _ | .pushPair _ | .call _ | .rst _ | .pushIx | .pushIy => [s.sp - 1, s.sp - 2]
  | .incMemIx d | .decMemIx d | .ldMemIxN d _ | .ldMemIxReg d _ | .rlcMemIx d | .rrcMemIx d | .rlMemIx d | .rrMemIx d
  | .slaMemIx d | .sraMemIx d | .srlMemIx d | .resMemIx _ d | .setMemIx _ d => [s.ea .ix d]
  | .incMemIy d | .decMemIy d | .ldMemIyN d _ | .ldMemIyReg d _ | .rlcMemIy d | .rrcMemIy d | .rlMemIy d | .rrMemIy d
  | .slaMemIy d | .sraMemIy d | .srlMemIy d | .resMemIy _ d | .setMemIy _ d => [s.ea .iy d]

/-- The T-states of the documented timing table (R630), every outcome of a form listed. -/
def Instr.tStates (i : Instr) : List Nat :=
  match i with
  | .nop | .incReg _ | .decReg _ | .rlca | .rrca | .rla | .rra | .daa | .cpl | .scf | .ccf | .exAfAf | .ldRegReg _ _
  | .halt | .addReg _ | .adcReg _ | .subReg _ | .sbcReg _ | .andReg _ | .xorReg _ | .orReg _ | .cpReg _ | .exx
  | .jpHl | .exDeHl | .di | .ei => [4]
  | .ldPairNn _ _ | .ldMemHlN _ | .popPair _ | .ret | .jpCond _ _ | .jp _ | .incIx | .decIx | .ldSpIx | .incIy
  | .decIy | .ldSpIy => [10]
  | .addHlPair _ | .incMemHl | .decMemHl | .outImmA _ | .inAImm _ | .pushPair _ | .rst _ => [11]
  | .ldMemBcA | .ldMemDeA | .ldAMemBc | .ldAMemDe | .ldRegN _ _ | .ldRegMemHl _ | .ldMemHlReg _ | .addMemHl
  | .addImm _ | .adcMemHl | .adcImm _ | .subMemHl | .subImm _ | .sbcMemHl | .sbcImm _ | .andMemHl | .andImm _
  | .xorMemHl | .xorImm _ | .orMemHl | .orImm _ | .cpMemHl | .cpImm _ => [7]
  | .ldMemNnHl _ | .ldHlMemNn _ | .ldi | .cpi | .ini | .outi | .ldd | .cpd | .ind | .outd => [16]
  | .ldMemNnA _ | .ldAMemNn _ => [13]
  | .incPair _ | .decPair _ | .ldSpHl => [6]
  | .djnz _ => [13, 8]
  | .jr _ | .bitMemHl _ | .inRegC _ | .outCReg _ => [12]
  | .jrCond _ _ => [12, 7]
  | .retCond _ => [11, 5]
  | .exMemSpHl | .ldMemIxN _ _ | .ldRegMemIx _ _ | .ldMemIxReg _ _ | .addMemIx _ | .adcMemIx _ | .subMemIx _
  | .sbcMemIx _ | .andMemIx _ | .xorMemIx _ | .orMemIx _ | .cpMemIx _ | .ldMemIyN _ _ | .ldRegMemIy _ _
  | .ldMemIyReg _ _ | .addMemIy _ | .adcMemIy _ | .subMemIy _ | .sbcMemIy _ | .andMemIy _ | .xorMemIy _ | .orMemIy _
  | .cpMemIy _ => [19]
  | .callCond _ _ => [17, 10]
  | .call _ => [17]
  | .rlcReg _ | .rrcReg _ | .rlReg _ | .rrReg _ | .slaReg _ | .sraReg _ | .srlReg _ | .bitReg _ _ | .resReg _ _
  | .setReg _ _ | .neg | .im0 | .im1 | .im2 | .jpIx | .jpIy => [8]
  | .rlcMemHl | .rrcMemHl | .rlMemHl | .rrMemHl | .slaMemHl | .sraMemHl | .srlMemHl | .resMemHl _ | .setMemHl _
  | .sbcHlPair _ | .adcHlPair _ | .addIxPair _ | .pushIx | .addIyPair _ | .pushIy => [15]
  | .ldMemNnPair _ _ | .ldPairMemNn _ _ | .ldMemNnIx _ | .ldIxMemNn _ | .bitMemIx _ _ | .ldMemNnIy _ | .ldIyMemNn _
  | .bitMemIy _ _ => [20]
  | .retn | .reti | .ldIxNn _ | .popIx | .ldIyNn _ | .popIy => [14]
  | .ldIA | .ldRA | .ldAI | .ldAR => [9]
  | .rrd | .rld => [18]
  | .ldir | .cpir | .inir | .otir | .lddr | .cpdr | .indr | .otdr => [21, 16]
  | .incMemIx _ | .decMemIx _ | .exMemSpIx | .rlcMemIx _ | .rrcMemIx _ | .rlMemIx _ | .rrMemIx _ | .slaMemIx _
  | .sraMemIx _ | .srlMemIx _ | .resMemIx _ _ | .setMemIx _ _ | .incMemIy _ | .decMemIy _ | .exMemSpIy | .rlcMemIy _
  | .rrcMemIy _ | .rlMemIy _ | .rrMemIy _ | .slaMemIy _ | .sraMemIy _ | .srlMemIy _ | .resMemIy _ _ | .setMemIy _ _
    => [23]

/-! ## Operand forms and arithmetic, in the terms of the rules -/

/-- The four operand forms of the ALU operations (R250). -/
inductive Operand
  | reg (r : Reg8)
  | hl
  | imm (n : Byte)
  | idx (x : Index) (d : Byte)
  deriving DecidableEq, Repr

/-- The byte an operand form yields (R250). -/
def Operand.value (s : State) : Operand → Byte
  | .reg r => s.reg8 r
  | .hl => s.readByte s.hl
  | .imm n => n
  | .idx x d => s.readByte (s.ea x d)

/-- The T-states of an operand form (R250). -/
def Operand.tStates : Operand → Nat
  | .reg _ => 4
  | .hl => 7
  | .imm _ => 7
  | .idx _ _ => 19

/-- The eight ALU operations in the order of their codes (R125). -/
inductive AluOp | add | adc | sub | sbc | and | xor | or | cp
  deriving DecidableEq, Repr

/-- The instruction of an operation and an operand form. -/
def AluOp.instr (op : AluOp) (o : Operand) : Instr :=
  match op, o with
  | .add, .reg r => .addReg r
  | .add, .hl => .addMemHl
  | .add, .imm n => .addImm n
  | .add, .idx x d => x.pick (.addMemIx d) (.addMemIy d)
  | .adc, .reg r => .adcReg r
  | .adc, .hl => .adcMemHl
  | .adc, .imm n => .adcImm n
  | .adc, .idx x d => x.pick (.adcMemIx d) (.adcMemIy d)
  | .sub, .reg r => .subReg r
  | .sub, .hl => .subMemHl
  | .sub, .imm n => .subImm n
  | .sub, .idx x d => x.pick (.subMemIx d) (.subMemIy d)
  | .sbc, .reg r => .sbcReg r
  | .sbc, .hl => .sbcMemHl
  | .sbc, .imm n => .sbcImm n
  | .sbc, .idx x d => x.pick (.sbcMemIx d) (.sbcMemIy d)
  | .and, .reg r => .andReg r
  | .and, .hl => .andMemHl
  | .and, .imm n => .andImm n
  | .and, .idx x d => x.pick (.andMemIx d) (.andMemIy d)
  | .xor, .reg r => .xorReg r
  | .xor, .hl => .xorMemHl
  | .xor, .imm n => .xorImm n
  | .xor, .idx x d => x.pick (.xorMemIx d) (.xorMemIy d)
  | .or, .reg r => .orReg r
  | .or, .hl => .orMemHl
  | .or, .imm n => .orImm n
  | .or, .idx x d => x.pick (.orMemIx d) (.orMemIy d)
  | .cp, .reg r => .cpReg r
  | .cp, .hl => .cpMemHl
  | .cp, .imm n => .cpImm n
  | .cp, .idx x d => x.pick (.cpMemIx d) (.cpMemIy d)

/-- Where a read-modify-write instruction finds its byte and puts the result (R324): a register, or memory. -/
inductive Place
  | reg (r : Reg8)
  | hl
  | idx (x : Index) (d : Byte)
  deriving DecidableEq, Repr

/-- The byte there. -/
def Place.value (s : State) : Place → Byte
  | .reg r => s.reg8 r
  | .hl => s.readByte s.hl
  | .idx x d => s.readByte (s.ea x d)

/-- The parts of the state that writing there touches. -/
def Place.parts : Place → List Part
  | .reg r => [.reg r]
  | .hl => [.memory, .slots]
  | .idx _ _ => [.memory, .slots]

/-- In `t` the place that `s` names holds `v`. -/
def Place.Holds (p : Place) (v : Byte) (s t : State) : Prop :=
  match p with
  | .reg r => t.reg8 r = v
  | .hl => Stored [(s.hl, v)] s t
  | .idx x d => Stored [(s.ea x d, v)] s t

/-- One of three costs, by the form. -/
def Place.cost (onReg onHl onIdx : Nat) : Place → Nat
  | .reg _ => onReg
  | .hl => onHl
  | .idx _ _ => onIdx

/-- The rotates and shifts of CB in the order of R325 to R331. -/
inductive ShiftOp | rlc | rl | rrc | rr | sla | sra | srl
  deriving DecidableEq, Repr

/-- The instruction of a rotate or shift at a place. -/
def ShiftOp.instr (op : ShiftOp) (p : Place) : Instr :=
  match op, p with
  | .rlc, .reg r => .rlcReg r
  | .rlc, .hl => .rlcMemHl
  | .rlc, .idx x d => x.pick (.rlcMemIx d) (.rlcMemIy d)
  | .rl, .reg r => .rlReg r
  | .rl, .hl => .rlMemHl
  | .rl, .idx x d => x.pick (.rlMemIx d) (.rlMemIy d)
  | .rrc, .reg r => .rrcReg r
  | .rrc, .hl => .rrcMemHl
  | .rrc, .idx x d => x.pick (.rrcMemIx d) (.rrcMemIy d)
  | .rr, .reg r => .rrReg r
  | .rr, .hl => .rrMemHl
  | .rr, .idx x d => x.pick (.rrMemIx d) (.rrMemIy d)
  | .sla, .reg r => .slaReg r
  | .sla, .hl => .slaMemHl
  | .sla, .idx x d => x.pick (.slaMemIx d) (.slaMemIy d)
  | .sra, .reg r => .sraReg r
  | .sra, .hl => .sraMemHl
  | .sra, .idx x d => x.pick (.sraMemIx d) (.sraMemIy d)
  | .srl, .reg r => .srlReg r
  | .srl, .hl => .srlMemHl
  | .srl, .idx x d => x.pick (.srlMemIx d) (.srlMemIy d)

/-- A rotate or shift as an operation on the byte taken as a number: RLC and RRC rotate eight bits, RL and RR rotate the nine
bits of the byte and the carry, SLA doubles, SRA halves the signed byte, SRL the unsigned one (R325 to R331). -/
def ShiftOp.result (op : ShiftOp) (m : Byte) (c : Bool) : Byte :=
  match op with
  | .rlc => m.rotateLeft 1
  | .rl => (m <<< 1) ||| BitVec.ofNat 8 c.toNat
  | .rrc => m.rotateRight 1
  | .rr => (m >>> 1) ||| BitVec.ofNat 8 (128 * c.toNat)
  | .sla => m + m
  | .sra => m.sshiftRight 1
  | .srl => BitVec.ofNat 8 (m.toNat / 2)

/-- The bit that leaves the byte: bit 7 on the way left, bit 0 on the way right. -/
def ShiftOp.carry (op : ShiftOp) (m : Byte) : Bool :=
  match op with
  | .rlc | .rl | .sla => m.msb
  | .rrc | .rr | .sra | .srl => m.toNat % 2 == 1

/-- INC of a byte at a place. -/
def incInstr : Place → Instr
  | .reg r => .incReg r
  | .hl => .incMemHl
  | .idx x d => x.pick (.incMemIx d) (.incMemIy d)

/-- DEC of a byte at a place. -/
def decInstr : Place → Instr
  | .reg r => .decReg r
  | .hl => .decMemHl
  | .idx x d => x.pick (.decMemIx d) (.decMemIy d)

/-- SET of a bit at a place. -/
def setInstr (b : Nat) : Place → Instr
  | .reg r => .setReg b r
  | .hl => .setMemHl b
  | .idx x d => x.pick (.setMemIx b d) (.setMemIy b d)

/-- RES of a bit at a place. -/
def resInstr (b : Nat) : Place → Instr
  | .reg r => .resReg b r
  | .hl => .resMemHl b
  | .idx x d => x.pick (.resMemIx b d) (.resMemIy b d)

/-- BIT of a bit at a place. -/
def bitInstr (b : Nat) : Place → Instr
  | .reg r => .bitReg b r
  | .hl => .bitMemHl b
  | .idx x d => x.pick (.bitMemIx b d) (.bitMemIy b d)

/-- An even number of the byte's bits are 1 (R14). -/
def evenOnes (v : Byte) : Bool := (List.range 8).countP (fun k => v.getLsbD k) % 2 == 0

/-- A signed result that no byte holds. -/
def leavesByte (t : Int) : Bool := decide (t < -128 ∨ 127 < t)

/-- A signed result that no word holds. -/
def leavesWord (t : Int) : Bool := decide (t < -32768 ∨ 32767 < t)

/-- A condition read off the bits of F: Z is bit 6, C bit 0, P/V bit 2, S bit 7 (R26, R126). -/
def Cond.on (cc : Cond) (f : Byte) : Bool :=
  match cc with
  | .nz => !f.getLsbD 6
  | .z => f.getLsbD 6
  | .nc => !f.getLsbD 0
  | .c => f.getLsbD 0
  | .po => !f.getLsbD 2
  | .pe => f.getLsbD 2
  | .p => !f.getLsbD 7
  | .m => f.getLsbD 7

/-- A JR condition read off the bits of F (R126). -/
def JrCond.on (k : JrCond) (f : Byte) : Bool :=
  match k with
  | .nz => !f.getLsbD 6
  | .z => f.getLsbD 6
  | .nc => !f.getLsbD 0
  | .c => f.getLsbD 0

/-- The byte that entry `entry` of `rom_banks` shows at `addr[13:0]`; 0xFF where the entry is unset (R77, R80, R82). -/
def romByte (s : State) (entry : Nat) (addr : Word) : Byte :=
  match s.romBanks[entry]? with
  | some (some b) => s.cart.bytes.read (b.val * 16384 + addr.toNat % 16384)
  | _ => 0xFF

/-! ## What every state of a session keeps -/

/-- The invariant of the machine. -/
structure Inv (s : State) : Prop where
  /-- System RAM is in its one canonical form. -/
  ram_wf : s.ram.wf = true
  /-- System RAM has 8192 bytes (R52). -/
  ram_bound : ∀ cell ∈ s.ram, cell.1 < ramSize
  /-- The image is in its one canonical form. -/
  cart_wf : s.cart.bytes.wf = true
  /-- The image is a whole number of banks (R53). -/
  cart_bound : ∀ cell ∈ s.cart.bytes, cell.1 < s.cart.banks * bankSize
  /-- Every entry of `rom_banks` is unset or names a bank of the mounted image (R50). -/
  banks_mounted : ∀ (j : Nat) (b : Fin 64), s.romBanks[j]? = some (some b) → b.val < s.cart.banks
  /-- `frame_acc` stays below FRAME_CYCLES (R62), while the console is powered or runs. -/
  frame_bound : s.runState = .running ∨ s.powered = true → s.frameAcc < Config.frameCycles
  /-- Nothing runs with a fault recorded (R504, R541). -/
  running_unfaulted : s.runState = .running → s.fault = none
  /-- A record's opcode is a list of 1 to 4 bytes (R61). -/
  record_length : ∀ rec, s.fault = some rec → 1 ≤ rec.opcode.length ∧ rec.opcode.length ≤ 4
  /-- With no fault recorded the diagnostic buffer is clear (R540). -/
  diag_clear : s.fault = none → s.diag = []
  /-- The text leaves room for its NUL and holds none (R503). -/
  diag_bound : s.diag.length < Config.diagLen ∧ 0 ∉ s.diag
  /-- The marks are in their one canonical form (R601). -/
  marks_wf : s.marks.wf = true

/-! ## What may hold no value (R601) -/

/-- The named flag. -/
def FlagName.of (k : FlagName) (b : FlagBits) : Bool :=
  match k with
  | .s => b.s
  | .z => b.z
  | .y => b.y
  | .h => b.h
  | .x => b.x
  | .pv => b.pv
  | .n => b.n
  | .c => b.c

/-- The rule of an instruction writes this location, in this state (R601): a register the rule touches, a flag it names. A
conditional CALL or RET moves SP only when its condition holds (R401, R403). -/
def Instr.names (i : Instr) (s : State) (l : Loc) : Prop :=
  match l with
  | .reg r => .reg r ∈ i.touches
  | .flag k => k ∈ i.flagsNamed
  | .ix => .ix ∈ i.touches
  | .iy => .iy ∈ i.touches
  | .sp => .sp ∈ i.touches ∧ ∀ cc nn, i = .retCond cc ∨ i = .callCond cc nn → cc.on s.regs.f = true

/-- Two register files agree at a location; IX, IY and SP are in neither. -/
def Loc.sameFile (l : Loc) (f g : RegFile) : Prop :=
  match l with
  | .reg r => g.get r = f.get r
  | .flag k => k.of (.ofByte g.f) = k.of (.ofByte f.f)
  | .ix | .iy | .sp => True

/-- Two states agree at a location. -/
def Loc.same (l : Loc) (s t : State) : Prop :=
  match l with
  | .reg _ | .flag _ => l.sameFile s.regs t.regs
  | .ix => t.ix = s.ix
  | .iy => t.iy = s.iy
  | .sp => t.sp = s.sp

/-- Two states with the same marks agree but for what holds no value. -/
def AgreeBut (s t : State) : Prop :=
  (∀ l, l ∉ s.marks.unwritten → l.same s t) ∧ (∀ l, l ∉ s.marks.shadow → l.sameFile s.shadow t.shadow) ∧
    UnchangedBut [.reg .a, .reg .b, .reg .c, .reg .d, .reg .e, .reg .h, .reg .l, .f, .shadow, .ix, .iy, .sp] s t

/-! ## The fatal encodings (R136) -/

/-- The 58 opcodes after ED (R133). -/
def edOpcodes : List Nat := [
  0x40, 0x41, 0x42, 0x43, 0x44, 0x45, 0x46, 0x47, 0x48, 0x49, 0x4A, 0x4B, 0x4D, 0x4F,
  0x50, 0x51, 0x52, 0x53, 0x56, 0x57, 0x58, 0x59, 0x5A, 0x5B, 0x5E, 0x5F,
  0x60, 0x61, 0x62, 0x63, 0x67, 0x68, 0x69, 0x6A, 0x6B, 0x6F,
  0x72, 0x73, 0x78, 0x79, 0x7A, 0x7B,
  0xA0, 0xA1, 0xA2, 0xA3, 0xA8, 0xA9, 0xAA, 0xAB, 0xB0, 0xB1, 0xB2, 0xB3, 0xB8, 0xB9, 0xBA, 0xBB]

/-- The 39 opcodes after DD and after FD (R134). -/
def indexOpcodes : List Nat := [
  0x09, 0x19, 0x21, 0x22, 0x23, 0x29, 0x2A, 0x2B, 0x34, 0x35, 0x36, 0x39,
  0x46, 0x4E, 0x56, 0x5E, 0x66, 0x6E, 0x70, 0x71, 0x72, 0x73, 0x74, 0x75, 0x77, 0x7E,
  0x86, 0x8E, 0x96, 0x9E, 0xA6, 0xAE, 0xB6, 0xBE, 0xE1, 0xE3, 0xE5, 0xE9, 0xF9]

/-- The four bytes begin with a sequence that is no instruction: the four rows of R136, with the opcodes of R132 to R135
written out. -/
def Fatal (b0 b1 b3 : Byte) : Prop :=
  (b0 = 0xCB ∧ 0x30 ≤ b1.toNat ∧ b1.toNat ≤ 0x37) ∨
  (b0 = 0xED ∧ b1.toNat ∉ edOpcodes) ∨
  ((b0 = 0xDD ∨ b0 = 0xFD) ∧ b1 ≠ 0xCB ∧ b1.toNat ∉ indexOpcodes) ∨
  ((b0 = 0xDD ∨ b0 = 0xFD) ∧ b1 = 0xCB ∧ (b3.toNat % 8 ≠ 6 ∨ b3 = 0x36))

/-- The fault record's opcode for such bytes (R136, R502). -/
def fatalOpcode (b0 b1 b2 b3 : Byte) : List Byte :=
  if b1 = 0xCB ∧ b0 ≠ 0xED ∧ b0 ≠ 0xCB then [b0, b1, b2, b3] else [b0, b1]

end Sys2Proof
end

