-- ==== Sys2Proof/Certificates/Slice0/Obligations.lean ====
section
/-! DEFINITION. The statements for the provers. Each docstring names the rule it formalises; "the model's choice" marks a
clause that rests on a log entry and not on a rule. `Completes i s n touched post` (Safety.lean) says that `exec i s` answers
a next state that costs `n` T-states, changes nothing but `touched`, and is as `post` says. -/

open Sys2Proof Sys2Proof.Machine

/-! ## The Memory Unit -/

/-- R77, R80, R82: what every address reads. Below 0x0400 entry 0 of `rom_banks`, in a window the entry its selector names,
both at offset `addr[13:0]` and 0xFF where the entry is unset; from 0xC000 on the RAM byte `addr[12:0]`. -/
def Obligations.AddressDecode : Prop :=
  ∀ (s : State) (addr : Word), s.readByte addr =
    if addr.toNat < 0x0400 then romByte s 0 addr
    else if addr.toNat < 0x4000 then romByte s s.slots.slot0.toNat addr
    else if addr.toNat < 0x8000 then romByte s s.slots.slot1.toNat addr
    else if addr.toNat < 0xC000 then romByte s s.slots.slot2.toNat addr
    else s.ram.read (addr.toNat % 8192)

/-- R81: an address in 0xE000-0xFFFF and its partner 0x2000 lower name the same byte; a byte written through one is read
through the other at once, the control addresses included, whose further effect adds to the store. -/
def Obligations.MirroredRam : Prop :=
  ∀ (s : State) (a : Word) (v : Byte), 0xE000 ≤ a.toNat →
    s.readByte a = s.readByte (a - 0x2000) ∧
    (s.writeByte a v).1.readByte (a - 0x2000) = v ∧ (s.writeByte a v).1.readByte a = v ∧
    (s.writeByte (a - 0x2000) v).1.readByte a = v ∧ (s.writeByte (a - 0x2000) v).1.readByte (a - 0x2000) = v ∧
    Stored [(a, v)] s (s.writeByte a v).1

/-- R86 to R89, R93: a write below 0xC000 answers false and changes no state. A write from 0xC000 on answers true, is read
back, moves window 0, 1 or 2 to the low six bits of the byte exactly when the address is 0xFFFD, 0xFFFE or 0xFFFF, and
changes nothing else. -/
def Obligations.ByteWrites : Prop :=
  ∀ (s : State) (a : Word) (v : Byte),
    (a.toNat ≤ 0xBFFF → s.writeByte a v = (s, false)) ∧
    (0xC000 ≤ a.toNat → (s.writeByte a v).2 = true ∧ Stored [(a, v)] s (s.writeByte a v).1 ∧
      UnchangedBut [.memory, .slots] s (s.writeByte a v).1)

/-- R84, R85, R90: words and double words are little-endian, at any address, with each further address modulo 65536; a word
write puts both bytes whatever becomes of the other, and answers true when both were accepted. -/
def Obligations.WordAccess : Prop :=
  ∀ (s : State) (a w : Word),
    (s.readWord a).toNat = (s.readByte a).toNat + 256 * (s.readByte (a + 1)).toNat ∧
    (s.readDword a).toNat = (s.readByte a).toNat + 256 * (s.readByte (a + 1)).toNat +
      65536 * (s.readByte (a + 2)).toNat + 16777216 * (s.readByte (a + 3)).toNat ∧
    Stored [(a, BitVec.ofNat 8 (w.toNat % 256)), (a + 1, BitVec.ofNat 8 (w.toNat / 256))] s (s.writeWord a w).1 ∧
    UnchangedBut [.memory, .slots] s (s.writeWord a w).1 ∧
    ((s.writeWord a w).2 = true ↔ 0xC000 ≤ a.toNat ∧ 0xC000 ≤ (a + 1).toNat)

/-- R71, R72, R73: a Mount of a size that is 0 or no multiple of 16384 changes nothing; any other sets every entry `j` of
`rom_banks` to bank `j mod n` and replaces the image, and changes nothing else. How `data` lists the image's bytes is the
model's choice (log 14). -/
def Obligations.MountTable : Prop :=
  ∀ (s : State) (size : Nat) (data : List Host.Cell),
    (size = 0 ∨ size % 16384 ≠ 0 → s.mount size data = s) ∧
    (∀ n, 0 < n → size = n * 16384 →
      (∀ j, j < 64 → ∃ b : Fin 64, (s.mount size data).romBanks[j]? = some (some b) ∧ b.val = j % n) ∧
      (s.mount size data).cart.banks = n ∧
      (∀ off, off < size → (s.mount size data).cart.bytes.read off =
        (((data.filter fun cell => cell.1 = off).getLast?).map fun cell => cell.2).getD 0xFF) ∧
      (s.mount size data).ram = s.ram ∧
      UnchangedBut [.romBanks, .cart, .memory] s (s.mount size data))

/-- R72, R77, R88 together: with an image of `n` banks mounted, a byte `v` written to the control register of a window makes
every read in that window return a byte of image bank `(v & 0x3F) mod n`. -/
def Obligations.WindowShowsSelectedBank : Prop :=
  ∀ (s : State) (size n : Nat) (data : List Host.Cell) (v : Byte) (a : Word), 0 < n → size = n * 16384 →
    let m := s.mount size data
    let shown := m.cart.bytes.read (v.toNat % 64 % n * 16384 + a.toNat % 16384)
    (0x0400 ≤ a.toNat ∧ a.toNat < 0x4000 → (m.writeByte 0xFFFD v).1.readByte a = shown) ∧
    (0x4000 ≤ a.toNat ∧ a.toNat < 0x8000 → (m.writeByte 0xFFFE v).1.readByte a = shown) ∧
    (0x8000 ≤ a.toNat ∧ a.toNat < 0xC000 → (m.writeByte 0xFFFF v).1.readByte a = shown)

/-- R74, R540, R600, R601: what PowerOn sets, whatever the state before; each register without a reset value holds what was
drawn for it and carries the mark of no value. Nothing else changes: that the INT line, the bus byte, the inputs lined up, the
events and the count of draws stay is the model's choice (log 25). -/
def Obligations.PowerOnState : Prop :=
  ∀ (s : State) (drawn : DrawnRegisters),
    let t := s.powerOn drawn
    t.pc = 0x0000 ∧ t.iff1 = false ∧ t.iff2 = false ∧ t.im = .im0 ∧ t.i = 0x00 ∧ t.r = 0x00 ∧ t.halted = false ∧
    t.eiShadow = false ∧ t.nmiPending = false ∧ t.cycles = 0 ∧ t.slots = ⟨0, 1, 2⟩ ∧
    (∀ a : Word, 0xC000 ≤ a.toNat → t.readByte a = 0xFF) ∧ t.fault = none ∧ t.diagnostic = none ∧ t.frameAcc = 0 ∧
    t.powered = true ∧ t.regs = drawn.regs ∧ t.shadow = drawn.shadow ∧ t.ix = drawn.ix ∧ t.iy = drawn.iy ∧
    t.sp = drawn.sp ∧ (∀ l, l ∈ t.marks.unwritten) ∧
    (∀ r, Loc.reg r ∈ t.marks.shadow) ∧ (∀ k, Loc.flag k ∈ t.marks.shadow) ∧
    UnchangedBut [.reg .a, .reg .b, .reg .c, .reg .d, .reg .e, .reg .h, .reg .l, .f, .shadow, .ix, .iy, .sp, .pc, .iReg,
      .rReg, .iff1, .iff2, .im, .halted, .eiShadow, .nmiPending, .cycles, .marks, .memory, .slots, .powered, .fault,
      .diag, .frameAcc] s t

/-- The state after reset is that of a PowerOn of a fresh session (R602, R603), with the values that log 1 names for the
registers the spec gives none: the model's choice. Every address then reads 0xFF. -/
def Obligations.ResetState : Prop :=
  State.reset = State.session.powerOn .named ∧ State.reset.pc = 0x0000 ∧ State.reset.im = .im0 ∧
  State.reset.iff1 = false ∧ State.reset.iff2 = false ∧ State.reset.i = 0x00 ∧ State.reset.r = 0x00 ∧
  State.reset.slots = ⟨0, 1, 2⟩ ∧ State.reset.fault = none ∧ State.reset.cycles = 0 ∧ State.reset.runState = .idle ∧
  State.reset.powered = true ∧ ∀ a : Word, State.reset.readByte a = 0xFF

/-! ## Encoding -/

/-- Decode and encode agree: for every well-formed instruction, four bytes that begin with its encoding decode to it, to the
length of its encoding, and to two opcode fetches after a prefix byte and one without (R121, R123). -/
def Obligations.DecodeEncode : Prop :=
  ∀ (i : Instr) (b0 b1 b2 b3 : Byte), i.wellFormed = true → encode i <+: [b0, b1, b2, b3] →
    decode b0 b1 b2 b3 = .ok ⟨i, (encode i).length, if b0 ∈ [0xCB, 0xED, 0xDD, 0xFD] then 2 else 1⟩

/-- The other direction: what decodes is well-formed, and its encoding is the bytes it was decoded from. So two different
byte sequences never mean one instruction. -/
def Obligations.EncodeDecode : Prop :=
  ∀ (b0 b1 b2 b3 : Byte) (d : Decoded), decode b0 b1 b2 b3 = .ok d →
    d.instr.wellFormed = true ∧ encode d.instr = [b0, b1, b2, b3].take d.len

/-- R136: decoding fails exactly on the fatal sequences, and the record's opcode is the bytes through the deciding one. -/
def Obligations.FatalSequences : Prop :=
  ∀ b0 b1 b2 b3 : Byte,
    ((∃ e, decode b0 b1 b2 b3 = .error e) ↔ Fatal b0 b1 b3) ∧
    ∀ e, decode b0 b1 b2 b3 = .error e → e.opcode = fatalOpcode b0 b1 b2 b3

/-- A few words written out from the spec's encodings (R131 to R135 and the examples of the instruction rules) decode to the
instructions they stand for, and two of its fatal sequences to none. -/
def Obligations.SampleWords : Prop :=
  decodeTableWord 8 0x76 = some .halt ∧
  decodeTableWord 24 0x3100E0 = some (.ldPairNn .sp 0xE000) ∧
  decodeTableWord 16 0xCB7F = some (.bitReg 7 .a) ∧
  decodeTableWord 32 0xED7B00C1 = some (.ldPairMemNn .sp 0xC100) ∧
  decodeTableWord 32 0xDD360599 = some (.ldMemIxN 0x05 0x99) ∧
  decodeTableWord 32 0xDDCB021E = some (.rrMemIx 0x02) ∧
  decodeTableWord 32 0xFDCBFF26 = some (.slaMemIy 0xFF) ∧
  decodeTableWord 16 0xED00 = none ∧ decodeTableWord 16 0xDDEB = none

/-! ## Every instruction -/

/-- R630: every instruction completes in every state, and costs what the timing table says, from 4 to 23 T-states. -/
def Obligations.EveryInstructionCompletes : Prop :=
  ∀ (i : Instr) (s : State), ∃ t, exec i s = .next t ∧ s.cycles + 4 ≤ t.cycles ∧ t.cycles ≤ s.cycles + 23 ∧
    t.cycles - s.cycles ∈ i.tStates

/-- R15: what an instruction's rule does not name is unchanged. `touches` lists the parts each rule names, `flagsNamed` the flags
and `storedAt` the addresses it stores at; every address that no such store disturbs reads as before. -/
def Obligations.InstructionFrame : Prop :=
  ∀ (i : Instr) (s t : State), exec i s = .next t →
    UnchangedBut (.cycles :: i.touches) s t ∧ (∀ k, k ∉ i.flagsNamed → k.of t.flags = k.of s.flags) ∧
    ∀ a, (∀ w ∈ i.storedAt s, ¬ disturbs w a) → t.readByte a = s.readByte a

/-! ## Loads and special registers -/

/-- The 8-bit loads into a register (R200 to R203, R208 to R210): the register holds the source's value, no flag changes. -/
def Obligations.LoadRegister : Prop :=
  ∀ (s : State) (r : Reg8),
    (∀ src, Completes (.ldRegReg r src) s 4 [.reg r] fun t => t.reg8 r = s.reg8 src) ∧
    (∀ n, Completes (.ldRegN r n) s 7 [.reg r] fun t => t.reg8 r = n) ∧
    (Completes (.ldRegMemHl r) s 7 [.reg r] fun t => t.reg8 r = s.readByte s.hl) ∧
    (∀ d, Completes (.ldRegMemIx r d) s 19 [.reg r] fun t => t.reg8 r = s.readByte (s.ea .ix d)) ∧
    (∀ d, Completes (.ldRegMemIy r d) s 19 [.reg r] fun t => t.reg8 r = s.readByte (s.ea .iy d)) ∧
    (Completes .ldAMemBc s 7 [.reg .a] fun t => t.reg8 .a = s.readByte s.bc) ∧
    (Completes .ldAMemDe s 7 [.reg .a] fun t => t.reg8 .a = s.readByte s.de) ∧
    (∀ nn, Completes (.ldAMemNn nn) s 13 [.reg .a] fun t => t.reg8 .a = s.readByte nn)

/-- The 8-bit stores (R204 to R207, R211 to R213): the byte is stored at the operand's address, a store below 0xC000 is lost,
one at a window's control register switches it, and no register or flag changes. -/
def Obligations.StoreRegister : Prop :=
  ∀ s : State,
    (∀ r, Completes (.ldMemHlReg r) s 7 [.memory, .slots] (Stored [(s.hl, s.reg8 r)] s)) ∧
    (∀ r d, Completes (.ldMemIxReg d r) s 19 [.memory, .slots] (Stored [(s.ea .ix d, s.reg8 r)] s)) ∧
    (∀ r d, Completes (.ldMemIyReg d r) s 19 [.memory, .slots] (Stored [(s.ea .iy d, s.reg8 r)] s)) ∧
    (∀ n, Completes (.ldMemHlN n) s 10 [.memory, .slots] (Stored [(s.hl, n)] s)) ∧
    (∀ d n, Completes (.ldMemIxN d n) s 19 [.memory, .slots] (Stored [(s.ea .ix d, n)] s)) ∧
    (∀ d n, Completes (.ldMemIyN d n) s 19 [.memory, .slots] (Stored [(s.ea .iy d, n)] s)) ∧
    Completes .ldMemBcA s 7 [.memory, .slots] (Stored [(s.bc, s.reg8 .a)] s) ∧
    Completes .ldMemDeA s 7 [.memory, .slots] (Stored [(s.de, s.reg8 .a)] s) ∧
    ∀ nn, Completes (.ldMemNnA nn) s 13 [.memory, .slots] (Stored [(nn, s.reg8 .a)] s)

/-- The instructions of the special registers: LD A,I and LD A,R with their flags, P/V showing IFF2; LD I,A and LD R,A; and
NOP, HALT, DI, EI and IM (R214 to R217, R450 to R453, R455 to R457). -/
def Obligations.SpecialRegisters : Prop :=
  ∀ s : State,
    (Completes .ldAI s 9 [.reg .a, .f] fun t => t.reg8 .a = s.i ∧ t.flags =
      { s := s.i.msb, z := s.i == 0, y := s.i.getLsbD 5, h := false, x := s.i.getLsbD 3, pv := s.iff2, n := false,
        c := s.flags.c }) ∧
    (Completes .ldAR s 9 [.reg .a, .f] fun t => t.reg8 .a = s.r ∧ t.flags =
      { s := s.r.msb, z := s.r == 0, y := s.r.getLsbD 5, h := false, x := s.r.getLsbD 3, pv := s.iff2, n := false,
        c := s.flags.c }) ∧
    (Completes .ldIA s 9 [.iReg] fun t => t.i = s.reg8 .a) ∧
    (Completes .ldRA s 9 [.rReg] fun t => t.r = s.reg8 .a) ∧
    (Completes .nop s 4 [] fun _ => True) ∧
    (Completes .halt s 4 [.halted] fun t => t.halted = true) ∧
    (Completes .di s 4 [.iff1, .iff2] fun t => t.iff1 = false ∧ t.iff2 = false) ∧
    (Completes .ei s 4 [.iff1, .iff2, .eiShadow] fun t => t.iff1 = true ∧ t.iff2 = true ∧ t.eiShadow = true) ∧
    (Completes .im0 s 8 [.im] fun t => t.im = .im0) ∧
    (Completes .im1 s 8 [.im] fun t => t.im = .im1) ∧
    (Completes .im2 s 8 [.im] fun t => t.im = .im2)

/-- The 16-bit loads into a pair, an index register or SP (R220 to R224, R228, R229); a word from memory is little-endian
with its second address modulo 65536. -/
def Obligations.LoadWord : Prop :=
  ∀ (s : State) (nn : Word),
    let word := BitVec.ofNat 16 ((s.readByte nn).toNat + 256 * (s.readByte (nn + 1)).toNat)
    (∀ p, Completes (.ldPairNn p nn) s 10 p.parts fun t => t.pair p = nn) ∧
    (Completes (.ldIxNn nn) s 14 [.ix] fun t => t.ix = nn) ∧
    (Completes (.ldIyNn nn) s 14 [.iy] fun t => t.iy = nn) ∧
    (Completes (.ldHlMemNn nn) s 16 [.reg .h, .reg .l] fun t => t.hl = word) ∧
    (∀ p, Completes (.ldPairMemNn p nn) s 20 p.parts fun t => t.pair p = word) ∧
    (Completes (.ldIxMemNn nn) s 20 [.ix] fun t => t.ix = word) ∧
    (Completes (.ldIyMemNn nn) s 20 [.iy] fun t => t.iy = word) ∧
    (Completes .ldSpHl s 6 [.sp] fun t => t.sp = s.hl) ∧
    (Completes .ldSpIx s 10 [.sp] fun t => t.sp = s.ix) ∧
    (Completes .ldSpIy s 10 [.sp] fun t => t.sp = s.iy)

/-- The 16-bit stores (R225 to R227): the low byte at `nn`, the high byte at `nn + 1` modulo 65536, each on its own. -/
def Obligations.StoreWord : Prop :=
  ∀ (s : State) (nn : Word),
    let bytes := fun w : Word => [(nn, BitVec.ofNat 8 (w.toNat % 256)), (nn + 1, BitVec.ofNat 8 (w.toNat / 256))]
    Completes (.ldMemNnHl nn) s 16 [.memory, .slots] (Stored (bytes s.hl) s) ∧
    (∀ p, Completes (.ldMemNnPair nn p) s 20 [.memory, .slots] (Stored (bytes (s.pair p)) s)) ∧
    Completes (.ldMemNnIx nn) s 20 [.memory, .slots] (Stored (bytes s.ix) s) ∧
    Completes (.ldMemNnIy nn) s 20 [.memory, .slots] (Stored (bytes s.iy) s)

/-! ## 8-bit arithmetic and logic -/

/-- ADD and ADC in every operand form (R250 to R252, R270): the sum modulo 256 and all eight flags; P/V is set exactly when
the signed sum is no signed byte. -/
def Obligations.AddBytes : Prop :=
  ∀ (s : State) (o : Operand) (withCarry : Bool),
    let a := s.regs.a
    let v := o.value s
    let c := (withCarry && s.flags.c).toNat
    let res := BitVec.ofNat 8 (a.toNat + v.toNat + c)
    Completes ((if withCarry then AluOp.adc else AluOp.add).instr o) s o.tStates [.reg .a, .f] fun t =>
      t.reg8 .a = res ∧ t.flags =
        { s := res.msb, z := res == 0, y := res.getLsbD 5, h := decide (15 < a.toNat % 16 + v.toNat % 16 + c),
          x := res.getLsbD 3, pv := leavesByte (a.toInt + v.toInt + c), n := false,
          c := decide (255 < a.toNat + v.toNat + c) }

/-- SUB, SBC and CP in every operand form (R250, R253, R254, R258, R271): the difference modulo 256 and all eight flags; P/V
is set exactly when the signed difference is no signed byte. CP keeps A and takes Y and X from the operand. -/
def Obligations.SubtractBytes : Prop :=
  ∀ (s : State) (o : Operand),
    let a := s.regs.a
    let v := o.value s
    let res := fun c : Nat => BitVec.ofNat 8 (256 + a.toNat - v.toNat - c)
    let flags := fun (c : Nat) (yx : Byte) => FlagBits.mk (res c).msb (res c == 0) (yx.getLsbD 5)
      (decide (a.toNat % 16 < v.toNat % 16 + c)) (yx.getLsbD 3) (leavesByte (a.toInt - v.toInt - c)) true
      (decide (a.toNat < v.toNat + c))
    (Completes (AluOp.sub.instr o) s o.tStates [.reg .a, .f] fun t => t.reg8 .a = res 0 ∧ t.flags = flags 0 (res 0)) ∧
    (Completes (AluOp.sbc.instr o) s o.tStates [.reg .a, .f] fun t =>
      t.reg8 .a = res s.flags.c.toNat ∧ t.flags = flags s.flags.c.toNat (res s.flags.c.toNat)) ∧
    (Completes (AluOp.cp.instr o) s o.tStates [.f] fun t => t.flags = flags 0 v)

/-- AND, OR and XOR in every operand form (R250, R255 to R257): each bit of A, and all eight flags; P/V is even parity. -/
def Obligations.LogicBytes : Prop :=
  ∀ (s : State) (o : Operand) (op : AluOp),
    let post := fun (bitOp : Bool → Bool → Bool) (h : Bool) (t : State) =>
      (∀ k, k < 8 → (t.reg8 .a).getLsbD k = bitOp (s.regs.a.getLsbD k) ((o.value s).getLsbD k)) ∧ t.flags =
        { s := (t.reg8 .a).msb, z := t.reg8 .a == 0, y := (t.reg8 .a).getLsbD 5, h := h, x := (t.reg8 .a).getLsbD 3,
          pv := evenOnes (t.reg8 .a), n := false, c := false }
    (op = .and → Completes (op.instr o) s o.tStates [.reg .a, .f] (post (· && ·) true)) ∧
    (op = .or → Completes (op.instr o) s o.tStates [.reg .a, .f] (post (· || ·) false)) ∧
    (op = .xor → Completes (op.instr o) s o.tStates [.reg .a, .f] (post (· ^^ ·) false))

/-- INC and DEC of a byte in every place (R259 to R264): C is kept, P/V marks 0x7F to 0x80 and 0x80 to 0x7F. -/
def Obligations.IncrementByte : Prop :=
  ∀ (s : State) (p : Place),
    let v := p.value s
    let up := BitVec.ofNat 8 (v.toNat + 1)
    let down := BitVec.ofNat 8 (v.toNat + 255)
    (Completes (incInstr p) s (p.cost 4 11 23) (.f :: p.parts) fun t => p.Holds up s t ∧ t.flags =
      { s := up.msb, z := up == 0, y := up.getLsbD 5, h := decide (v.toNat % 16 = 15), x := up.getLsbD 3,
        pv := leavesByte (v.toInt + 1), n := false, c := s.flags.c }) ∧
    (Completes (decInstr p) s (p.cost 4 11 23) (.f :: p.parts) fun t => p.Holds down s t ∧ t.flags =
      { s := down.msb, z := down == 0, y := down.getLsbD 5, h := decide (v.toNat % 16 = 0), x := down.getLsbD 3,
        pv := leavesByte (v.toInt - 1), n := true, c := s.flags.c })

/-- DAA (R265): the correction, the new A and the flags, for every A and every flags. -/
def Obligations.DecimalAdjust : Prop :=
  ∀ s : State,
    let a := s.regs.a.toNat
    let high := s.flags.c || decide (0x99 < a)
    let low := s.flags.h || decide (9 < a % 16)
    let diff := 96 * high.toNat + 6 * low.toNat
    let res := BitVec.ofNat 8 (if s.flags.n then a + 256 - diff else a + diff)
    Completes .daa s 4 [.reg .a, .f] fun t => t.reg8 .a = res ∧ t.flags =
      { s := res.msb, z := res == 0, y := res.getLsbD 5,
        h := if s.flags.n then s.flags.h && decide (a % 16 < 6) else decide (9 < a % 16),
        x := res.getLsbD 3, pv := evenOnes res, n := s.flags.n, c := high }

/-- What DAA is for (R265, "decimal adjust A after a BCD addition or subtraction"): the sum of two packed decimal bytes,
adjusted, is the packed decimal sum with its hundred in C, and their difference modulo 100 with the borrow in C. -/
def Obligations.DecimalArithmetic : Prop :=
  ∀ (s : State) (v : Byte),
    let dec := fun b : Byte => 10 * (b.toNat / 16) + b.toNat % 16
    s.regs.a.toNat / 16 ≤ 9 → s.regs.a.toNat % 16 ≤ 9 → v.toNat / 16 ≤ 9 → v.toNat % 16 ≤ 9 →
    (∃ t u, exec (.addImm v) s = .next t ∧ exec .daa t = .next u ∧ u.regs.a.toNat / 16 ≤ 9 ∧ u.regs.a.toNat % 16 ≤ 9 ∧
      dec u.regs.a + 100 * u.flags.c.toNat = dec s.regs.a + dec v) ∧
    (∃ t u, exec (.subImm v) s = .next t ∧ exec .daa t = .next u ∧ u.regs.a.toNat / 16 ≤ 9 ∧ u.regs.a.toNat % 16 ≤ 9 ∧
      dec u.regs.a + dec v = dec s.regs.a + 100 * u.flags.c.toNat)

/-- CPL, NEG, CCF and SCF (R266 to R269). Y and X after CCF and SCF are free: nothing is said of them. -/
def Obligations.AccumulatorAndCarry : Prop :=
  ∀ s : State,
    let a := s.regs.a
    let neg := BitVec.ofNat 8 (256 - a.toNat)
    (Completes .cpl s 4 [.reg .a, .f] fun t => (t.reg8 .a).toNat = 255 - a.toNat ∧ t.flags =
      { s.flags with h := true, n := true, y := !a.getLsbD 5, x := !a.getLsbD 3 }) ∧
    (Completes .neg s 8 [.reg .a, .f] fun t => t.reg8 .a = neg ∧ t.flags =
      { s := neg.msb, z := a == 0, y := neg.getLsbD 5, h := decide (a.toNat % 16 ≠ 0), x := neg.getLsbD 3, pv := a == 0x80,
        n := true, c := a != 0 }) ∧
    (Completes .ccf s 4 [.f, .draws] fun t => ∃ y x,
      t.flags = { s.flags with h := s.flags.c, n := false, c := !s.flags.c, y := y, x := x }) ∧
    (Completes .scf s 4 [.f, .draws] fun t => ∃ y x,
      t.flags = { s.flags with h := false, n := false, c := true, y := y, x := x })

/-! ## 16-bit arithmetic -/

/-- ADD HL,rp and ADD IX/IY,pp (R300, R303): the sum modulo 65536; H from bit 11, C from bit 15, Y and X from the high byte;
S, Z and P/V are kept. ADC HL,rp and SBC HL,rp (R301, R302): the result modulo 65536 and all eight flags; P/V is set exactly
when the signed result is no signed word. INC and DEC of a pair or an index register (R304 to R307): modulo 65536, and no flag
changes. -/
def Obligations.WordArithmetic : Prop :=
  ∀ s : State,
    let post := fun (a b res : Word) (t : State) =>
      res.toNat = (a.toNat + b.toNat) % 65536 ∧ t.flags =
        { s.flags with
          h := decide (0xFFF < a.toNat % 4096 + b.toNat % 4096), n := false, c := decide (0xFFFF < a.toNat + b.toNat),
          y := res.getLsbD 13, x := res.getLsbD 11 }
    (∀ p, Completes (.addHlPair p) s 11 [.f, .reg .h, .reg .l] fun t => post s.hl (s.pair p) t.hl t) ∧
    (∀ p, Completes (.addIxPair p) s 15 [.f, .ix] fun t => post s.ix (s.ixPair p) t.ix t) ∧
    (∀ p, Completes (.addIyPair p) s 15 [.f, .iy] fun t => post s.iy (s.iyPair p) t.iy t) ∧
    (∀ p, Completes (.incPair p) s 6 p.parts fun t => (t.pair p).toNat = ((s.pair p).toNat + 1) % 65536) ∧
    (∀ p, Completes (.decPair p) s 6 p.parts fun t => (t.pair p).toNat = ((s.pair p).toNat + 65535) % 65536) ∧
    (Completes .incIx s 10 [.ix] fun t => t.ix.toNat = (s.ix.toNat + 1) % 65536) ∧
    (Completes .incIy s 10 [.iy] fun t => t.iy.toNat = (s.iy.toNat + 1) % 65536) ∧
    (Completes .decIx s 10 [.ix] fun t => t.ix.toNat = (s.ix.toNat + 65535) % 65536) ∧
    (Completes .decIy s 10 [.iy] fun t => t.iy.toNat = (s.iy.toNat + 65535) % 65536) ∧
    ∀ p,
      let a := s.hl
      let b := s.pair p
      let c := s.flags.c.toNat
      let sum := BitVec.ofNat 16 (a.toNat + b.toNat + c)
      let dif := BitVec.ofNat 16 (65536 + a.toNat - b.toNat - c)
      (Completes (.adcHlPair p) s 15 [.f, .reg .h, .reg .l] fun t => t.hl = sum ∧ t.flags =
        { s := sum.msb, z := sum == 0, y := sum.getLsbD 13, h := decide (0xFFF < a.toNat % 4096 + b.toNat % 4096 + c),
          x := sum.getLsbD 11, pv := leavesWord (a.toInt + b.toInt + c), n := false,
          c := decide (0xFFFF < a.toNat + b.toNat + c) }) ∧
      (Completes (.sbcHlPair p) s 15 [.f, .reg .h, .reg .l] fun t => t.hl = dif ∧ t.flags =
        { s := dif.msb, z := dif == 0, y := dif.getLsbD 13, h := decide (a.toNat % 4096 < b.toNat % 4096 + c),
          x := dif.getLsbD 11, pv := leavesWord (a.toInt - b.toInt - c), n := true,
          c := decide (a.toNat < b.toNat + c) })

/-! ## Rotates, shifts, bits -/

/-- RLCA, RLA, RRCA, RRA (R320 to R323): A rotated, C the bit that left it; S, Z and P/V are kept. RLD and RRD (R332, R333):
three decimal digits, of A's low half and of the byte at HL, rotated; C is kept. -/
def Obligations.RotateAccumulator : Prop :=
  ∀ s : State,
    let a := s.regs.a.toNat
    let m := (s.readByte s.hl).toNat
    let rotated := fun (op : ShiftOp) (t : State) =>
      t.reg8 .a = op.result s.regs.a s.flags.c ∧ t.flags =
        { s.flags with
          c := op.carry s.regs.a, h := false, n := false, y := (t.reg8 .a).getLsbD 5, x := (t.reg8 .a).getLsbD 3 }
    let digits := fun (stored res : Nat) (t : State) =>
      Stored [(s.hl, BitVec.ofNat 8 stored)] s t ∧ (t.reg8 .a).toNat = res ∧ t.flags =
        { s := (t.reg8 .a).msb, z := t.reg8 .a == 0, y := (t.reg8 .a).getLsbD 5, h := false, x := (t.reg8 .a).getLsbD 3,
          pv := evenOnes (t.reg8 .a), n := false, c := s.flags.c }
    Completes .rlca s 4 [.reg .a, .f] (rotated .rlc) ∧ Completes .rla s 4 [.reg .a, .f] (rotated .rl) ∧
    Completes .rrca s 4 [.reg .a, .f] (rotated .rrc) ∧ Completes .rra s 4 [.reg .a, .f] (rotated .rr) ∧
    Completes .rld s 18 [.reg .a, .f, .memory, .slots] (digits (16 * (m % 16) + a % 16) (16 * (a / 16) + m / 16)) ∧
    Completes .rrd s 18 [.reg .a, .f, .memory, .slots] (digits (16 * (a % 16) + m / 16) (16 * (a / 16) + m % 16))

/-- The CB rotates and shifts in every place (R324 to R331): the result where the byte was, and all eight flags. -/
def Obligations.ShiftByte : Prop :=
  ∀ (s : State) (op : ShiftOp) (p : Place),
    let res := op.result (p.value s) s.flags.c
    Completes (op.instr p) s (p.cost 8 15 23) (.f :: p.parts) fun t => p.Holds res s t ∧ t.flags =
      { s := res.msb, z := res == 0, y := res.getLsbD 5, h := false, x := res.getLsbD 3, pv := evenOnes res, n := false,
        c := op.carry (p.value s) }

/-- BIT (R350 to R352): Z and P/V from the tested bit, S only from a set bit 7, H set, N and C. Y and X copy the register's
bits, are free for (HL), and come from the address for (IX+d) and (IY+d). SET and RES in every place (R353 to R358): the one
bit is set or reset, every other bit and every flag is kept. -/
def Obligations.BitInstructions : Prop :=
  ∀ (s : State) (b : Nat), b < 8 →
    let flags := fun (v : Byte) (y x : Bool) => FlagBits.mk (decide (b = 7) && v.getLsbD 7) (!v.getLsbD b) y true x
      (!v.getLsbD b) false s.flags.c
    (∀ r, Completes (.bitReg b r) s 8 [.f] fun t =>
      t.flags = flags (s.reg8 r) ((s.reg8 r).getLsbD 5) ((s.reg8 r).getLsbD 3)) ∧
    (Completes (.bitMemHl b) s 12 [.f, .draws] fun t => ∃ y x, t.flags = flags (s.readByte s.hl) y x) ∧
    (∀ x d, Completes (bitInstr b (.idx x d)) s 20 [.f] fun t =>
      t.flags = flags (s.readByte (s.ea x d)) ((s.ea x d).getLsbD 13) ((s.ea x d).getLsbD 11)) ∧
    ∀ p : Place,
      (∃ v : Byte, (∀ k, k < 8 → v.getLsbD k = (decide (k = b) || (p.value s).getLsbD k)) ∧
        Completes (setInstr b p) s (p.cost 8 15 23) p.parts (p.Holds v s)) ∧
      (∃ v : Byte, (∀ k, k < 8 → v.getLsbD k = (decide (k ≠ b) && (p.value s).getLsbD k)) ∧
        Completes (resInstr b p) s (p.cost 8 15 23) p.parts (p.Holds v s))

/-! ## Block instructions -/

/-- LDI, LDD, LDIR and LDDR (R370 to R373, R378, R379): one byte moved, HL and DE stepped, BC counted down; a repeating form
whose count is not used up goes back to its own prefix, in 21 T-states, with Y and X free. -/
def Obligations.BlockTransfer : Prop :=
  ∀ (s : State) (down : Bool),
    let step : Word := if down then 0xFFFF else 0x0001
    let m := s.readByte s.hl
    let sum := BitVec.ofNat 8 (m.toNat + s.regs.a.toNat)
    let touched := [.f, .memory, .slots, .reg .b, .reg .c, .reg .d, .reg .e, .reg .h, .reg .l]
    let moved := fun t : State =>
      Stored [(s.de, m)] s t ∧ t.hl = s.hl + step ∧ t.de = s.de + step ∧ t.bc = s.bc - 1
    let flags := fun y x : Bool => { s.flags with h := false, n := false, pv := decide (s.bc ≠ 1), y := y, x := x }
    (Completes (if down then .ldd else .ldi) s 16 touched fun t =>
      moved t ∧ t.flags = flags (sum.getLsbD 1) (sum.getLsbD 3)) ∧
    (s.bc = 1 → Completes (if down then .lddr else .ldir) s 16 touched fun t =>
      moved t ∧ t.flags = flags (sum.getLsbD 1) (sum.getLsbD 3)) ∧
    (s.bc ≠ 1 → Completes (if down then .lddr else .ldir) s 21 (.pc :: .draws :: touched) fun t =>
      moved t ∧ t.pc = s.pc - 2 ∧ ∃ y x, t.flags = flags y x)

/-- CPI, CPD, CPIR and CPDR (R374 to R379): A compared, HL stepped, BC counted down; Z says that the byte matched, H that the
low digits borrowed; a repeating form goes back to its own prefix until a match or the end of the count. -/
def Obligations.BlockSearch : Prop :=
  ∀ (s : State) (down : Bool),
    let step : Word := if down then 0xFFFF else 0x0001
    let m := s.readByte s.hl
    let borrow := decide (s.regs.a.toNat % 16 < m.toNat % 16)
    let n := BitVec.ofNat 8 (512 + s.regs.a.toNat - m.toNat - borrow.toNat)
    let touched := [.f, .reg .b, .reg .c, .reg .h, .reg .l]
    let stepped := fun t : State => t.hl = s.hl + step ∧ t.bc = s.bc - 1
    let flags := fun y x : Bool => FlagBits.mk (BitVec.ofNat 8 (256 + s.regs.a.toNat - m.toNat)).msb (s.regs.a == m) y
      borrow x (decide (s.bc ≠ 1)) true s.flags.c
    let last := fun t : State => stepped t ∧ t.flags = flags (n.getLsbD 1) (n.getLsbD 3)
    Completes (if down then .cpd else .cpi) s 16 touched last ∧
    (s.bc = 1 ∨ s.regs.a = m → Completes (if down then .cpdr else .cpir) s 16 touched last) ∧
    (s.bc ≠ 1 ∧ s.regs.a ≠ m → Completes (if down then .cpdr else .cpir) s 21 (.pc :: .draws :: touched) fun t =>
      stepped t ∧ t.pc = s.pc - 2 ∧ ∃ y x, t.flags = flags y x)

/-! ## Control transfer -/

/-- The jumps (R390 to R396, R421): the target or the next instruction, by the condition; a relative target counts from the
next instruction, modulo 65536. DJNZ counts B down and changes no flag. -/
def Obligations.Jumps : Prop :=
  ∀ (s : State) (nn : Word) (e : Byte),
    let near := BitVec.ofInt 16 (s.pc.toNat + e.toInt)
    (Completes (.jp nn) s 10 [.pc] fun t => t.pc = nn) ∧
    (∀ cc, Completes (.jpCond cc nn) s 10 [.pc] fun t => t.pc = if cc.on s.regs.f then nn else s.pc) ∧
    (Completes (.jr e) s 12 [.pc] fun t => t.pc = near) ∧
    (∀ k, Completes (.jrCond k e) s (if k.on s.regs.f then 12 else 7) [.pc] fun t =>
      t.pc = if k.on s.regs.f then near else s.pc) ∧
    (Completes .jpHl s 4 [.pc] fun t => t.pc = s.hl) ∧
    (Completes .jpIx s 8 [.pc] fun t => t.pc = s.ix) ∧
    (Completes .jpIy s 8 [.pc] fun t => t.pc = s.iy) ∧
    (Completes (.djnz e) s (if s.regs.b ≠ 1 then 13 else 8) [.pc, .reg .b] fun t =>
      t.reg8 .b = s.regs.b - 1 ∧ t.pc = if s.regs.b ≠ 1 then near else s.pc)

/-- CALL, CALL c and RST (R400, R401, R410, R430): PC's high byte at SP - 1, its low byte at SP - 2, SP down by 2, PC at the
target; RET, RET c, RETI and RETN (R402 to R405, R431): PC from the word at SP, SP up by 2; RETI and RETN copy IFF2 into IFF1.
A call or a return whose condition fails changes nothing. -/
def Obligations.CallsAndReturns : Prop :=
  ∀ (s : State) (nn : Word),
    let called := fun (target : Word) (t : State) => t.pc = target ∧ t.sp = s.sp - 2 ∧
      Stored [(s.sp - 1, BitVec.ofNat 8 (s.pc.toNat / 256)), (s.sp - 2, BitVec.ofNat 8 (s.pc.toNat % 256))] s t
    let touched := [.pc, .sp, .memory, .slots]
    let returned := fun t : State =>
      t.pc.toNat = (s.readByte s.sp).toNat + 256 * (s.readByte (s.sp + 1)).toNat ∧ t.sp = s.sp + 2
    Completes (.call nn) s 17 touched (called nn) ∧
    (∀ cc : Cond, cc.on s.regs.f = true → Completes (.callCond cc nn) s 17 touched (called nn)) ∧
    (∀ cc : Cond, cc.on s.regs.f = false → Completes (.callCond cc nn) s 10 [] fun _ => True) ∧
    (∀ k, k < 8 → Completes (.rst k) s 11 touched (called (BitVec.ofNat 16 (8 * k)))) ∧
    Completes .ret s 10 [.pc, .sp] returned ∧
    (∀ cc : Cond, cc.on s.regs.f = true → Completes (.retCond cc) s 11 [.pc, .sp] returned) ∧
    (∀ cc : Cond, cc.on s.regs.f = false → Completes (.retCond cc) s 5 [] fun _ => True) ∧
    (Completes .reti s 14 [.pc, .sp, .iff1] fun t => returned t ∧ t.iff1 = s.iff2) ∧
    (Completes .retn s 14 [.pc, .sp, .iff1] fun t => returned t ∧ t.iff1 = s.iff2)

/-! ## Stack and exchange -/

/-- PUSH and POP (R430 to R435): the high byte at SP - 1, the low byte at SP - 2; POP AF writes all of F. -/
def Obligations.PushPop : Prop :=
  ∀ s : State,
    let pushed := fun (w : Word) (t : State) => t.sp = s.sp - 2 ∧
      Stored [(s.sp - 1, BitVec.ofNat 8 (w.toNat / 256)), (s.sp - 2, BitVec.ofNat 8 (w.toNat % 256))] s t
    let top := BitVec.ofNat 16 ((s.readByte s.sp).toNat + 256 * (s.readByte (s.sp + 1)).toNat)
    (∀ q, Completes (.pushPair q) s 11 [.sp, .memory, .slots] (pushed (s.stackPair q))) ∧
    Completes .pushIx s 15 [.sp, .memory, .slots] (pushed s.ix) ∧
    Completes .pushIy s 15 [.sp, .memory, .slots] (pushed s.iy) ∧
    (∀ q, Completes (.popPair q) s 10 (.sp :: q.parts) fun t => t.sp = s.sp + 2 ∧ t.stackPair q = top) ∧
    (Completes .popIx s 14 [.sp, .ix] fun t => t.sp = s.sp + 2 ∧ t.ix = top) ∧
    (Completes .popIy s 14 [.sp, .iy] fun t => t.sp = s.sp + 2 ∧ t.iy = top)

/-- The pushed word reads back (R430, R431): with both stack bytes in system RAM, a PUSH and then a POP move the word from
the one pair to the other, all sixteen bits, and leave SP where it was; a CALL and then a RET come back to the next
instruction. -/
def Obligations.StackRoundTrip : Prop :=
  ∀ s : State, 0xC000 ≤ (s.sp - 1).toNat → 0xC000 ≤ (s.sp - 2).toNat →
    (∀ p q, ∃ t u, exec (.pushPair p) s = .next t ∧ exec (.popPair q) t = .next u ∧ u.stackPair q = s.stackPair p ∧
      u.sp = s.sp) ∧
    (∀ nn, ∃ t u, exec (.call nn) s = .next t ∧ exec .ret t = .next u ∧ t.pc = nn ∧ u.pc = s.pc ∧ u.sp = s.sp)

/-- The exchanges (R436 to R440): DE with HL, AF with AF', the other three pairs with their shadows, and a 16-bit register
with the word at SP, whose low byte is the lower one; no flag changes but by EX AF,AF'. -/
def Obligations.Exchanges : Prop :=
  ∀ s : State,
    let bytes := fun w : Word => [(s.sp, BitVec.ofNat 8 (w.toNat % 256)), (s.sp + 1, BitVec.ofNat 8 (w.toNat / 256))]
    let top := BitVec.ofNat 16 ((s.readByte s.sp).toNat + 256 * (s.readByte (s.sp + 1)).toNat)
    (Completes .exDeHl s 4 [.reg .d, .reg .e, .reg .h, .reg .l] fun t => t.de = s.hl ∧ t.hl = s.de) ∧
    (Completes .exAfAf s 4 [.reg .a, .f, .shadow] fun t =>
      t.regs.a = s.shadow.a ∧ t.regs.f = s.shadow.f ∧
      t.shadow = { s.shadow with a := s.regs.a, f := s.regs.f }) ∧
    (Completes .exx s 4 [.reg .b, .reg .c, .reg .d, .reg .e, .reg .h, .reg .l, .shadow] fun t =>
      t.regs = { s.shadow with a := s.regs.a, f := s.regs.f } ∧
      t.shadow = { s.regs with a := s.shadow.a, f := s.shadow.f }) ∧
    (Completes .exMemSpHl s 19 [.reg .h, .reg .l, .memory, .slots] fun t => t.hl = top ∧ Stored (bytes s.hl) s t) ∧
    (Completes .exMemSpIx s 23 [.ix, .memory, .slots] fun t => t.ix = top ∧ Stored (bytes s.ix) s t) ∧
    (Completes .exMemSpIy s 23 [.iy, .memory, .slots] fun t => t.iy = top ∧ Stored (bytes s.iy) s t)

/-! ## Input and output -/

/-- IN and OUT of one byte (R470 to R473): the port, the event, and for a lined-up answer `v` the register and the flags.
That the environment's answers are lined up in a list is the model's choice (log 4). -/
def Obligations.PortTransfer : Prop :=
  ∀ (s : State) (n : Byte) (r : Reg8),
    let port := BitVec.ofNat 16 (256 * s.regs.a.toNat + n.toNat)
    (Completes (.outImmA n) s 11 [.events] fun t => t.events = s.events ++ [.ioWrite port s.regs.a]) ∧
    (Completes (.outCReg r) s 12 [.events] fun t => t.events = s.events ++ [.ioWrite s.bc (s.reg8 r)]) ∧
    (Completes (.inAImm n) s 11 [.reg .a, .ioAnswers, .events, .draws] fun t =>
      t.events = s.events ++ [.ioRead port] ∧
      ∀ v rest, s.ioAnswers = v :: rest → t.ioAnswers = rest ∧ t.reg8 .a = v) ∧
    (Completes (.inRegC r) s 12 [.reg r, .f, .ioAnswers, .events, .draws] fun t =>
      t.events = s.events ++ [.ioRead s.bc] ∧ t.flags =
        { s := (t.reg8 r).msb, z := t.reg8 r == 0, y := (t.reg8 r).getLsbD 5, h := false, x := (t.reg8 r).getLsbD 3,
          pv := evenOnes (t.reg8 r), n := false, c := s.flags.c } ∧
      ∀ v rest, s.ioAnswers = v :: rest → t.ioAnswers = rest ∧ t.reg8 r = v)

/-- INI, IND, INIR, INDR: one byte from port BC to memory at HL; OUTI, OUTD, OTIR, OTDR: the byte at HL to the port whose
high half is B counted down (R474 to R482). HL is stepped and B counted down; Z says that B reached 0 and every other flag is
free; a repeating form goes back to its own prefix until then. The list of lined-up answers is the model's choice (log 4). -/
def Obligations.BlockPorts : Prop :=
  ∀ (s : State) (down : Bool),
    let step : Word := if down then 0xFFFF else 0x0001
    let stepped := fun t : State =>
      t.hl = s.hl + step ∧ t.reg8 .b = s.regs.b - 1 ∧ t.flags.z = decide (s.regs.b = 1)
    let inputs := [.f, .memory, .slots, .reg .b, .reg .h, .reg .l, .ioAnswers, .events, .draws]
    let received := fun t : State => stepped t ∧ t.events = s.events ++ [.ioRead s.bc] ∧
      ∃ v, Stored [(s.hl, v)] s t ∧ ∀ w rest, s.ioAnswers = w :: rest → v = w ∧ t.ioAnswers = rest
    let port := BitVec.ofNat 16 (256 * (s.regs.b - 1).toNat + s.regs.c.toNat)
    let outputs := [.f, .reg .b, .reg .h, .reg .l, .events, .draws]
    let sent := fun t : State => stepped t ∧ t.events = s.events ++ [.ioWrite port (s.readByte s.hl)]
    Completes (if down then .ind else .ini) s 16 inputs received ∧
    Completes (if down then .outd else .outi) s 16 outputs sent ∧
    (s.regs.b = 1 →
      Completes (if down then .indr else .inir) s 16 inputs received ∧
      Completes (if down then .otdr else .otir) s 16 outputs sent) ∧
    (s.regs.b ≠ 1 →
      (Completes (if down then .indr else .inir) s 21 (.pc :: inputs) fun t => received t ∧ t.pc = s.pc - 2) ∧
      (Completes (if down then .otdr else .otir) s 21 (.pc :: outputs) fun t => sent t ∧ t.pc = s.pc - 2))

/-! ## The CPU step, interrupts, faults -/

/-- A step runs the decoded instruction (R121, R530): with no interrupt to take and the CPU not halted, the CPU step at a
state whose bytes at PC decode to `d` is `exec` of that instruction, with PC past its bytes, R past its opcode fetches and
the EI shadow ended; and the machine's step is that, with Run entered if it was not, the marks of R601 moved on, and the
T-states handed out and counted. -/
def Obligations.StepRunsDecodedInstruction : Prop :=
  ∀ (s : State) (d : Decoded),
    decode (s.readByte s.pc) (s.readByte (s.pc + 1)) (s.readByte (s.pc + 2)) (s.readByte (s.pc + 3)) = .ok d →
    s.nmiPending = false → s.intCondition = false → s.halted = false →
    let ready := { s with eiShadow := false, pc := s.pc + BitVec.ofNat 16 d.len, r := refreshBy d.m1 s.r }
    cpuStep s = exec d.instr ready ∧
    (s.runState = .running ∨ s.powered = true ∧ s.fault = none →
      ∃ t, exec d.instr { ready with runState := .running, marks := s.marks.after d.instr s } = .next t ∧
        step s = .next ((t.tick (t.cycles - s.cycles)).crossFrames Config.frameCycles))

/-- R542, R544, R550: the machine's step in every state, from what the CPU step comes to there, be it an instruction, a halted
step or the acceptance of an interrupt. An idle console that is unpowered or has a fault recorded stays as it is. Else Run is
entered or goes on: what the CPU step leaves, with the Tick of its T-states handed out, the T-states added to the frame count,
and the frame boundaries then reached; or the CPU step's fault. That one step is one turn of Run is the model's choice
(log 9). -/
def Obligations.MachineStep : Prop :=
  ∀ s : State,
    (s.runState = .idle → s.powered = false ∨ s.fault ≠ none → step s = .next s) ∧
    (s.runState = .running ∨ s.powered = true ∧ s.fault = none →
      (∀ t, cpuStep s = .next t →
        let handed : State := { t with
          runState := .running
          marks := s.stepMarks
          events := t.events ++ [.tick (t.cycles - s.cycles)]
          frameAcc := t.frameAcc + (t.cycles - s.cycles) }
        s.cycles + 4 ≤ t.cycles ∧ t.cycles ≤ s.cycles + 23 ∧ step s = .next (handed.crossFrames Config.frameCycles)) ∧
      ∀ f, cpuStep s = .fault f → step s = .fault f)

/-- R136, R500, R502: with no interrupt to take and the CPU not halted, fatal bytes at PC end the step in the fault with its
record, in the first turn of Run and in every later one. R501, R502, R542: after a step that faults, for either cause, Run
returns with the record set and its text to be had; no T-state is spent and nothing is handed out; every register but PC and
R, and every byte of memory, are as before the step; after the mode-0 fault IFF1, IFF2 and HALT are open as well. That the EI
shadow is as before the step is the model's reading of R501 and R530 (log 12). -/
def Obligations.FatalStep : Prop :=
  ∀ s : State, s.runState = .running ∨ s.powered = true ∧ s.fault = none →
    (s.nmiPending = false → s.intCondition = false → s.halted = false →
      Fatal (s.readByte s.pc) (s.readByte (s.pc + 1)) (s.readByte (s.pc + 3)) →
      step s = .fault (.unsupportedOpcode .decode ⟨s.pc,
        fatalOpcode (s.readByte s.pc) (s.readByte (s.pc + 1)) (s.readByte (s.pc + 2)) (s.readByte (s.pc + 3))⟩)) ∧
    ∀ cause rec, step s = .fault (.unsupportedOpcode cause rec) →
      ∃ t, t.fault = some rec ∧ t.diagnostic ≠ none ∧ t.runState = .idle ∧
        UnchangedBut ((if cause = .busByte then [.iff1, .iff2, .halted] else []) ++
          [.pc, .rReg, .fault, .diag, .runState, .draws]) s t ∧
        ∀ fuel,
          (s.runState = .idle → run .draw Config.frameCycles (fuel + 1) s = .returned t) ∧
          (s.runState = .running → runLoop .draw Config.frameCycles (fuel + 1) s = .returned t)

/-- R515, R516, R517: a pending NMI is accepted whatever the enables, the mode, the EI shadow and the INT line hold; a RETN
then restores IFF1 from the IFF2 it kept. -/
def Obligations.NmiAcceptance : Prop :=
  ∀ s : State, s.nmiPending = true →
    ∃ t, cpuStep s = .next t ∧ t.nmiPending = false ∧ t.halted = false ∧ t.eiShadow = false ∧ t.iff1 = false ∧
      t.iff2 = s.iff2 ∧ t.pc = 0x0066 ∧ t.sp = s.sp - 2 ∧ t.cycles = s.cycles + 11 ∧
      t.r.toNat % 128 = (s.r.toNat + 1) % 128 ∧ t.r.msb = s.r.msb ∧
      Stored [(s.sp - 1, BitVec.ofNat 8 (s.pc.toNat / 256)), (s.sp - 2, BitVec.ofNat 8 (s.pc.toNat % 256))] s t ∧
      UnchangedBut [.nmiPending, .halted, .eiShadow, .iff1, .pc, .sp, .cycles, .rReg, .memory, .slots] s t ∧
      ∃ u, exec .retn t = .next u ∧ u.iff1 = s.iff2

/-- R511 to R514, R516: at a boundary with no NMI pending, INT is accepted under its condition, in each mode with its vector
and its T-states; the mode-2 table is read after the push. In mode 0 a bus byte that is no restart is the fatal fault, with
PC and that byte for its record. -/
def Obligations.IntAcceptance : Prop :=
  ∀ s : State, s.nmiPending = false → s.intLine = true → s.iff1 = true → s.eiShadow = false →
    let accepted := fun (n : Nat) (vector : State → Word) => ∃ t, cpuStep s = .next t ∧ t.halted = false ∧
      t.eiShadow = false ∧ t.iff1 = false ∧ t.iff2 = false ∧ t.pc = vector t ∧ t.sp = s.sp - 2 ∧
      t.cycles = s.cycles + n ∧ t.r.toNat % 128 = (s.r.toNat + 1) % 128 ∧ t.r.msb = s.r.msb ∧
      t.events = s.events ++ [.intAck s.busByte] ∧
      Stored [(s.sp - 1, BitVec.ofNat 8 (s.pc.toNat / 256)), (s.sp - 2, BitVec.ofNat 8 (s.pc.toNat % 256))] s t ∧
      UnchangedBut [.halted, .eiShadow, .iff1, .iff2, .pc, .sp, .cycles, .rReg, .events, .memory, .slots] s t
    (s.im = .im0 → (∃ k, k < 8 ∧ s.busByte.toNat = 0xC7 + 8 * k) →
      accepted 13 fun _ => BitVec.ofNat 16 (s.busByte.toNat - 0xC7)) ∧
    (s.im = .im0 → ¬ (∃ k, k < 8 ∧ s.busByte.toNat = 0xC7 + 8 * k) →
      cpuStep s = .fault (.unsupportedOpcode .busByte ⟨s.pc, [s.busByte]⟩)) ∧
    (s.im = .im1 → accepted 13 fun _ => 0x0038) ∧
    (s.im = .im2 → accepted 19 fun t =>
      let table := BitVec.ofNat 16 (256 * s.i.toNat + s.busByte.toNat)
      BitVec.ofNat 16 ((t.readByte table).toNat + 256 * (t.readByte (table + 1)).toNat))

/-- R451, R454, R530: while halted, with no interrupt to take, a step counts one fetch in R, spends 4 T-states, ends the EI
shadow and does nothing else. An INT that is not enabled, or in the EI shadow, is not taken. -/
def Obligations.HaltedStep : Prop :=
  ∀ s : State, s.halted = true → s.nmiPending = false → s.intLine = false ∨ s.iff1 = false ∨ s.eiShadow = true →
    ∃ t, cpuStep s = .next t ∧ t.cycles = s.cycles + 4 ∧ t.eiShadow = false ∧
      t.r.toNat % 128 = (s.r.toNat + 1) % 128 ∧ t.r.msb = s.r.msb ∧ UnchangedBut [.cycles, .eiShadow, .rReg] s t

/-- R33: every step that does not execute EI clears the EI shadow, and EI sets it. R29, R123: every step counts one or two
fetches in the low seven bits of R and keeps its bit 7, but for the step that executes LD R,A, after which R is A. -/
def Obligations.ShadowAndRefresh : Prop :=
  ∀ s t : State, cpuStep s = .next t →
    (t.eiShadow = true ↔ s.nmiPending = false ∧ s.intCondition = false ∧ s.halted = false ∧
      ∃ d, s.decodeAtPc = .ok d ∧ d.instr = .ei) ∧
    ((t.r.msb = s.r.msb ∧ (t.r.toNat % 128 = (s.r.toNat + 1) % 128 ∨ t.r.toNat % 128 = (s.r.toNat + 2) % 128)) ∨
      ∃ d, s.decodeAtPc = .ok d ∧ d.instr = .ldRA ∧ t.r = s.regs.a)

/-- R404, R405, R515: an NMI and then RETN come back to the interrupted PC with SP and IFF2 as they were and the maskable
enable as it was before the NMI, when the two flip-flops agreed and the stack is in system RAM. -/
def Obligations.NmiReturn : Prop :=
  ∀ s : State, s.nmiPending = true → s.iff1 = s.iff2 → 0xC000 ≤ (s.sp - 1).toNat → 0xC000 ≤ (s.sp - 2).toNat →
    ∃ t u, cpuStep s = .next t ∧ exec .retn t = .next u ∧ u.pc = s.pc ∧ u.sp = s.sp ∧ u.iff1 = s.iff1 ∧ u.iff2 = s.iff2

/-! ## The scheduler -/

/-- R542, R545, R550, R551: the count of T-states crosses a boundary for every FRAME_CYCLES it holds and keeps the rest. At each
one the callback, if one is attached, is called once, and then the power flag is read; a PowerOff by the callback or from the
asynchronous context, at this boundary or since the one before, or before the first, ends the run there, with the boundaries
beyond it uncounted. That the decisions are lined up in lists is the model's choice (log 10, log 11). -/
def Obligations.FrameBoundaries : Prop :=
  ∀ (frameCycles k : Nat) (s : State), 0 < frameCycles →
    let t := s.crossFrames frameCycles
    let staysOn := fun j => s.asyncOff[j]? ≠ some true ∧ (s.callback = none ∨ s.callbackOff[j]? = some false)
    let crossed := fun n =>
      t.frameAcc = s.frameAcc - n * frameCycles ∧ t.asyncOff = s.asyncOff.drop n ∧
      (∀ handle, s.callback = some handle →
        t.events = s.events ++ List.replicate n (.frame handle) ∧ t.callbackOff = s.callbackOff.drop n) ∧
      (s.callback = none → t.events = s.events ∧ t.callbackOff = s.callbackOff ∧ t.draws = s.draws)
    let touched := [.frameAcc, .events, .callbackOff, .asyncOff, .draws]
    (s.frameAcc < frameCycles → t = s) ∧
    (k = s.frameAcc / frameCycles → s.powered = true → (∀ j, j < k → staysOn j) →
      crossed k ∧ t.frameAcc < frameCycles ∧ UnchangedBut touched s t) ∧
    ((k + 1) * frameCycles ≤ s.frameAcc →
      (k = 0 ∧ s.powered = false ∨
        s.powered = true ∧ (∀ j, j < k → staysOn j) ∧
          (s.asyncOff[k]? = some true ∨ s.callback ≠ none ∧ s.callbackOff[k]? = some true)) →
      crossed (k + 1) ∧ t.powered = false ∧ t.runState = .idle ∧ UnchangedBut (.powered :: .runState :: touched) s t)

/-- R543: once the power flag is clear, Run returns after at most FRAME_CYCLES - 1 + 23 more T-states, whatever the program
does, and with the console idle; FRAME_CYCLES loop turns always suffice. -/
def Obligations.PowerOffLatency : Prop :=
  ∀ (frameCycles : Nat) (s : State), 0 < frameCycles → s.runState = .running → s.powered = false →
    s.frameAcc < frameCycles →
    ∃ t, runLoop .draw frameCycles frameCycles s = .returned t ∧ t.runState = .idle ∧
      t.cycles ≤ s.cycles + (frameCycles - 1 + 23)

/-- R504, R546: with a fault recorded, or unpowered, Run returns at once without a step; the machine's steps and every action
of the host but PowerOn leave the record, and PowerOn clears it. -/
def Obligations.FaultIsSticky : Prop :=
  ∀ s : State,
    (s.runState = .idle → s.fault ≠ none ∨ s.powered = false →
      ∀ setting, stepUnder setting s = .machine (.next s) ∧ ∀ fuel, run setting Config.frameCycles fuel s = .returned s) ∧
    (∀ setting t, stepUnder setting s = .machine (.next t) → t.fault = s.fault) ∧
    (∀ a t, s.act a = .next t → (∀ drawn, a ≠ .powerOn drawn) → t.fault = s.fault ∧ t.diagnostic = s.diagnostic) ∧
    ∀ drawn, (s.powerOn drawn).fault = none

/-- R503: without a fault the diagnostic accessor gives null; the text of a record is not null, ends in its only NUL, has
room in DIAG_LEN, and contains the record's pc in four hexadecimal digits and its opcode bytes in two each. Every digit is
spelled out: the character of the nibble, "0" to "9" (0x30 to 0x39) or "A" to "F" (0x41 to 0x46), the high nibble first. The
capitals and the digits' standing together are the model's choice (log 13). -/
def Obligations.DiagnosticText : Prop :=
  ∀ (s : State) (cause : FaultCause) (rec : FaultRecord),
    let digit := fun k : Nat => BitVec.ofNat 8 (if k < 10 then 0x30 + k else 0x41 + (k - 10))
    let two := fun v : Nat => [digit (v / 16), digit (v % 16)]
    let digits := two (rec.pc.toNat / 256) ++ two (rec.pc.toNat % 256) ++ (rec.opcode.map fun b => two b.toNat).flatten
    (s.fault = none → s.diagnostic = none) ∧
    (rec.opcode.length ≤ 4 →
      ∃ text, (s.recordFault cause rec).diagnostic = some (text ++ [0]) ∧ 0 ∉ text ∧
        text.length ≤ Config.diagLen - 1 ∧ digits <:+: text)

/-- What the host and the environment do (R518, R545, R561, R562, R563). PowerOff writes the power flag and nothing else, at any
time, and a step never sets the flag. SetIntLine and RequestNMI write the level and the pending bit and nothing else; two
requests merge into one; a step never sets the pending bit. While Run is idle Mount, PowerOn and the attachments have their
effect; that they are refused while it runs, and the setting of the bus byte and the lists of inputs lined up, are the model's
choice (log 4, log 6, log 10, log 11, log 22). -/
def Obligations.HostActions : Prop :=
  ∀ s : State,
    (s.act .powerOff = .next s.powerOff ∧ s.powerOff.powered = false ∧ UnchangedBut [.powered] s s.powerOff) ∧
    (∀ t, step s = .next t → t.powered = true → s.powered = true) ∧
    (∀ v, ∃ t, s.act (.setIntLine v) = .next t ∧ t.intLine = v ∧ UnchangedBut [.intLine] s t) ∧
    (∃ t, s.act .requestNmi = .next t ∧ t.nmiPending = true ∧ UnchangedBut [.nmiPending] s t ∧
      t.act .requestNmi = .next t) ∧
    (∀ t, step s = .next t → t.nmiPending = true → t = s) ∧
    (∀ b, ∃ t, s.act (.setBusByte b) = .next t ∧ t.busByte = b ∧ UnchangedBut [.busByte] s t) ∧
    (∀ v, ∃ t, s.act (.lineUpIoAnswer v) = .next t ∧ t.ioAnswers = s.ioAnswers ++ [v] ∧ UnchangedBut [.ioAnswers] s t) ∧
    (∀ off, ∃ t, s.act (.lineUpCallback off) = .next t ∧ t.callbackOff = s.callbackOff ++ [off] ∧
      UnchangedBut [.callbackOff] s t) ∧
    (∀ off, ∃ t, s.act (.lineUpPowerOff off) = .next t ∧ t.asyncOff = s.asyncOff ++ [off] ∧
      UnchangedBut [.asyncOff] s t) ∧
    (s.runState = .idle → ∀ size data drawn h,
      s.act (.mount size data) = .next (s.mount size data) ∧
      s.act (.powerOn drawn) = .next (s.powerOn drawn) ∧
      (∃ t, s.act (.attachCallback h) = .next t ∧ t.callback = h ∧ UnchangedBut [.callback] s t) ∧
      ∃ t, s.act (.attachDisplay h) = .next t ∧ t.displayBuffer = h ∧ UnchangedBut [.displayBuffer] s t) ∧
    (s.runState = .running → ∀ size data drawn h,
      s.act (.mount size data) = .refused (.hostActionWhileRunning .mount) ∧
      s.act (.powerOn drawn) = .refused (.hostActionWhileRunning .powerOn) ∧
      s.act (.attachCallback h) = .refused (.hostActionWhileRunning .attachCallback) ∧
      s.act (.attachDisplay h) = .refused (.hostActionWhileRunning .attachDisplay) ∧
      ∀ setting fuel, run setting Config.frameCycles fuel s = .refused (.hostActionWhileRunning .run))

/-! ## Over every step -/

/-- The invariant is kept by every step, from every state that has it: system RAM and the image stay in canonical form and
in their bounds, every table entry names a bank of the image, the frame count stays below FRAME_CYCLES, nothing runs with a
fault recorded, the marks stay in canonical form (R50, R52, R62, R504, R601). -/
def Obligations.StepKeepsInvariant : Prop :=
  ∀ s t : State, Inv s → Sys2Proof.Machine.step s = .next t → Inv t

/-- The state after reset has the invariant. -/
def Obligations.ResetHasInvariant : Prop := Inv State.reset

/-- The host's and the environment's actions keep the invariant, and so does the recording of a fault that a step raised. -/
def Obligations.HostKeepsInvariant : Prop :=
  ∀ s t : State, Inv s →
    (∀ a, s.act a = .next t → Inv t) ∧
    (∀ cause rec, step s = .fault (.unsupportedOpcode cause rec) → Inv (s.recordFault cause rec)) ∧ Inv State.session

/-- What no step changes, whatever the program: the bank table and the image, which only Mount writes (R50, R53), the
session's attachments (R63), the fault record (R61). I changes only by LD I,A (R28), IM only by IM 0, IM 1, IM 2 (R31), the
shadow registers only by EX AF,AF' and EXX (R22). The INT line is the environment's (R561); that the line and the bus byte
change between two steps and not inside one is the model's choice (log 7, log 6). -/
def Obligations.StepLeaves : Prop :=
  ∀ s t : State, step s = .next t →
    t.romBanks = s.romBanks ∧ t.cart = s.cart ∧ t.callback = s.callback ∧ t.displayBuffer = s.displayBuffer ∧
    t.intLine = s.intLine ∧ t.busByte = s.busByte ∧ t.fault = s.fault ∧ t.diag = s.diag ∧
    (t.i ≠ s.i → ∃ d, s.decodeAtPc = .ok d ∧ d.instr = .ldIA) ∧
    (t.im ≠ s.im → ∃ d, s.decodeAtPc = .ok d ∧ (d.instr = .im0 ∨ d.instr = .im1 ∨ d.instr = .im2)) ∧
    (t.shadow ≠ s.shadow → ∃ d, s.decodeAtPc = .ok d ∧ (d.instr = .exAfAf ∨ d.instr = .exx))

/-- No step refuses: every byte sequence decodes to an instruction or to the fault, and every instruction has a meaning
(R564). A step that faults has one of the fault's two causes, complete (R500). -/
def Obligations.StepIsTotal : Prop :=
  ∀ s : State,
    (∃ t, step s = .next t) ∨
    (∃ rec, step s = .fault (.unsupportedOpcode .decode rec) ∧ rec.pc = s.pc ∧
      Fatal (s.readByte s.pc) (s.readByte (s.pc + 1)) (s.readByte (s.pc + 3))) ∨
    (∃ rec, step s = .fault (.unsupportedOpcode .busByte rec) ∧ rec = ⟨s.pc, [s.busByte]⟩ ∧ s.intLine = true ∧
      s.iff1 = true ∧ s.im = .im0 ∧ ¬ ∃ k, k < 8 ∧ s.busByte.toNat = 0xC7 + 8 * k)

/-- R601: under UNWRITTEN_READ = `fault` a register that holds no value has no effect. From two states that agree but for what
holds no value, a turn of the Run loop leads to states that agree but for what then holds no value, or is the same fault or
model fault, and two PowerOns agree so whatever is drawn. So no run under `fault` depends on the values that log 1 names. -/
def Obligations.UnwrittenValuesDoNotMatter : Prop :=
  ∀ (frameCycles : Nat) (s t : State),
    (AgreeBut s t →
      (∀ s', runIteration .fault frameCycles s = .machine (.next s') →
        ∃ t', runIteration .fault frameCycles t = .machine (.next t') ∧ AgreeBut s' t') ∧
      (∀ f, runIteration .fault frameCycles s = .machine (.fault f) →
        runIteration .fault frameCycles t = .machine (.fault f)) ∧
      ∀ l, runIteration .fault frameCycles s = .unwrittenRead l → runIteration .fault frameCycles t = .unwrittenRead l) ∧
    ∀ drawn drawn', AgreeBut (s.powerOn drawn) (s.powerOn drawn')

/-- R500, R601: under UNWRITTEN_READ = `fault` a turn that reads a register that holds no value is the model fault, naming one
that is read, and Run ends in it with no state; a turn that reads none is the machine's. Under `draw` every turn is, and the
machine's step is that turn: no read stops it. R605: with no cartridge the
first step after PowerOn reads SP. The reads that R601 spells out are those of JR C, CCF, DAA and PUSH AF, and the exchanges
read nothing. Which of several registers is named is the model's choice (log 2). -/
def Obligations.UnwrittenReads : Prop :=
  ∀ (frameCycles : Nat) (s : State),
    runIteration .draw frameCycles s = .machine (s.turn frameCycles) ∧ stepUnder .draw s = .machine (step s) ∧
    (s.runState = .running ∨ s.powered = true ∧ s.fault = none →
      ((∀ l ∈ s.stepReads, l ∉ s.marks.unwritten) →
        runIteration .fault frameCycles s = .machine (s.turn frameCycles)) ∧
      ((∃ l ∈ s.stepReads, l ∈ s.marks.unwritten) →
        ∃ l ∈ s.stepReads, l ∈ s.marks.unwritten ∧ runIteration .fault frameCycles s = .unwrittenRead l ∧
          ∀ fuel,
            (s.runState = .idle → run .fault frameCycles (fuel + 1) s = .unwrittenRead l) ∧
            (s.runState = .running → runLoop .fault frameCycles (fuel + 1) s = .unwrittenRead l))) ∧
    (s.romBanks[0]? = some none → ∀ drawn,
      runIteration .fault frameCycles (s.powerOn drawn) = .unwrittenRead .sp) ∧
    (∀ e l, l ∈ (Instr.jrCond .c e).reads s ↔ l = .flag .c) ∧ (∀ l, l ∈ Instr.ccf.reads s ↔ l = .flag .c) ∧
    (∀ l, l ∈ Instr.daa.reads s ↔ l = .reg .a ∨ l = .flag .c ∨ l = .flag .h ∨ l = .flag .n) ∧
    (∀ l, l ∈ (Instr.pushPair .af).reads s ↔ l = .sp ∨ l = .reg .a ∨ ∃ k, l = .flag k) ∧
    Instr.exAfAf.reads s = [] ∧ Instr.exx.reads s = [] ∧ Instr.exDeHl.reads s = []

/-- R601, R21: how the marks move. After an instruction that is no exchange, a location carries no mark if its rule writes it (a
register, both halves of a pair, exactly the flags the rule names), or if it differs from before; every other location keeps its
mark, and so does the shadow file. The exchanges move the marks with the values (R436, R437, R438). A turn of Run moves them so
for the instruction it decodes, under either setting, and a halted one leaves them. That the acceptance of an interrupt clears
SP's mark is the model's choice (log 2). -/
def Obligations.MarksMove : Prop :=
  ∀ (s : State) (i : Instr),
    let m := s.marks.after i s
    let shadowKept := fun l => l ∈ shadowLocs → (l ∈ m.shadow ↔ l ∈ s.marks.shadow)
    let kept := fun l => (l ∈ m.unwritten ↔ l ∈ s.marks.unwritten) ∧ shadowKept l
    let exchanged := fun l => (l ∈ m.unwritten ↔ l ∈ s.marks.shadow) ∧ (l ∈ m.shadow ↔ l ∈ s.marks.unwritten)
    (i ≠ .exAfAf → i ≠ .exx → i ≠ .exDeHl → ∀ l,
      (i.names s l → l ∉ m.unwritten) ∧ (¬ i.names s l → kept l) ∧ shadowKept l ∧
      ∀ t, exec i s = .next t → ¬ l.same s t → l ∉ m.unwritten) ∧
    (i = .exAfAf → exchanged (.reg .a) ∧ (∀ k, exchanged (.flag k)) ∧ (∀ r, r ≠ .a → kept (.reg r)) ∧
      ∀ l ∈ [.ix, .iy, .sp], kept l) ∧
    (i = .exx → kept (.reg .a) ∧ (∀ k, kept (.flag k)) ∧ (∀ r, r ≠ .a → exchanged (.reg r)) ∧
      ∀ l ∈ [.ix, .iy, .sp], kept l) ∧
    (i = .exDeHl → (Loc.reg .d ∈ m.unwritten ↔ Loc.reg .h ∈ s.marks.unwritten) ∧
      (Loc.reg .e ∈ m.unwritten ↔ Loc.reg .l ∈ s.marks.unwritten) ∧
      (Loc.reg .h ∈ m.unwritten ↔ Loc.reg .d ∈ s.marks.unwritten) ∧
      (Loc.reg .l ∈ m.unwritten ↔ Loc.reg .e ∈ s.marks.unwritten) ∧
      ∀ l, shadowKept l ∧ (l ∉ [.reg .d, .reg .e, .reg .h, .reg .l] → kept l)) ∧
    ∀ setting frameCycles t, s.runState = .running ∨ s.powered = true ∧ s.fault = none →
      runIteration setting frameCycles s = .machine (.next t) →
      let accepts := s.nmiPending = true ∨ s.intCondition = true
      (accepts → ∀ l, (l ∈ t.marks.unwritten ↔ l ∈ s.marks.unwritten ∧ l ≠ .sp) ∧
        (l ∈ shadowLocs → (l ∈ t.marks.shadow ↔ l ∈ s.marks.shadow))) ∧
      (¬ accepts → s.halted = true → t.marks = s.marks) ∧
      (¬ accepts → s.halted = false → ∀ d, s.decodeAtPc = .ok d → t.marks = s.marks.after d.instr s)
end

