-- ==== Sys2Proof/Laws/Bits.lean ====
section
/-! SUPPORT. The bit-field helpers as arithmetic, the register file's laws, and the flag byte as eight flags. -/

namespace Sys2Proof

/-! ## Bytes and words -/

theorem toNat_hi8 (w : Word) : (hi8 w).toNat = w.toNat / 256 := by
  simp [hi8, BitVec.extractLsb'_toNat, Nat.shiftRight_eq_div_pow]; omega

theorem toNat_lo8 (w : Word) : (lo8 w).toNat = w.toNat % 256 := by
  simp [lo8, BitVec.extractLsb'_toNat]

theorem toNat_join (h l : Byte) : (join h l).toNat = 256 * h.toNat + l.toNat := by
  simp only [join, BitVec.toNat_append]
  rw [← Nat.shiftLeft_add_eq_or_of_lt l.isLt, Nat.shiftLeft_eq]
  omega

theorem hi8_eq (w : Word) : hi8 w = BitVec.ofNat 8 (w.toNat / 256) :=
  BitVec.eq_of_toNat_eq (by simp [toNat_hi8]; omega)

theorem lo8_eq (w : Word) : lo8 w = BitVec.ofNat 8 (w.toNat % 256) :=
  BitVec.eq_of_toNat_eq (by simp [toNat_lo8])

theorem join_eq (h l : Byte) : join h l = BitVec.ofNat 16 (l.toNat + 256 * h.toNat) :=
  BitVec.eq_of_toNat_eq (by simp [toNat_join]; omega)

@[simp] theorem hi8_join (h l : Byte) : hi8 (join h l) = h :=
  BitVec.eq_of_toNat_eq (by simp only [toNat_hi8, toNat_join]; omega)

@[simp] theorem lo8_join (h l : Byte) : lo8 (join h l) = l :=
  BitVec.eq_of_toNat_eq (by simp only [toNat_lo8, toNat_join]; omega)

@[simp] theorem join_hi8_lo8 (w : Word) : join (hi8 w) (lo8 w) = w :=
  BitVec.eq_of_toNat_eq (by simp only [toNat_join, toNat_hi8, toNat_lo8]; omega)

/-- A byte of a 16-bit sum: the byte as a signed number. -/
theorem sext16_eq (d : Byte) : sext16 d = BitVec.ofInt 16 d.toInt := by
  apply BitVec.eq_of_toInt_eq
  simp only [sext16, BitVec.toInt_signExtend_of_le (by omega : 8 ≤ 16), BitVec.toInt_ofInt]
  have := d.le_toInt
  have := d.toInt_lt
  simp only [Int.bmod]
  omega

/-- One opcode fetch counts in the low seven bits of R. -/
theorem refresh_low (r : Byte) : (refresh r).toNat % 128 = (r.toNat + 1) % 128 := by
  revert r; decide

/-- One opcode fetch keeps bit 7 of R. -/
@[simp] theorem refresh_msb (r : Byte) : (refresh r).msb = r.msb := by
  revert r; decide

/-! ## The register file -/

namespace Machine

@[simp] theorem RegFile.get_set_same (f : RegFile) (r : Reg8) (v : Byte) : (f.set r v).get r = v := by cases r <;> rfl

theorem RegFile.get_set (f : RegFile) (r r' : Reg8) (v : Byte) : (f.set r v).get r' = if r = r' then v else f.get r' := by
  cases r <;> cases r' <;> rfl

@[simp] theorem RegFile.set_f (f : RegFile) (r : Reg8) (v : Byte) : (f.set r v).f = f.f := by cases r <;> rfl

/-- F is no register of a field `r` or `s`. -/
@[simp] theorem RegFile.get_with_f (f : RegFile) (r : Reg8) (v : Byte) : ({ f with f := v } : RegFile).get r = f.get r := by
  cases r <;> rfl

/-! ## The flag byte -/

@[simp] theorem FlagBits.ofByte_toByte (b : FlagBits) : FlagBits.ofByte b.toByte = b := by
  obtain ⟨s, z, y, h, x, pv, n, c⟩ := b
  revert s z y h x pv n c; decide

@[simp] theorem FlagBits.toByte_ofByte (f : Byte) : (FlagBits.ofByte f).toByte = f := by
  revert f; decide

@[simp] theorem State.flags_setFlags (s : State) (b : FlagBits) : (s.setFlags b).flags = b := by
  simp [State.setFlags, State.flags]

end Machine

end Sys2Proof
end

