-- ==== Sys2Proof/Laws/Flags.lean ====
section
/-! SUPPORT. For each flag computation one lemma that says all it does, as arithmetic. -/

namespace Sys2Proof

open Sys2Proof.Machine

@[simp] theorem bit_eq (b : Bool) : bit b = b.toNat := by cases b <;> rfl

/-- `parity` counts (R14). -/
theorem parity_eq (v : Byte) : parity v = evenOnes v := by
  revert v; decide

/-! ## Signed overflow -/

/-- Two addends of one sign and a sum of the other: the signed sum is no byte. -/
theorem overflow_add8 (a b : Byte) (c : Bool) :
    ((a.msb == b.msb) && ((BitVec.ofNat 8 (a.toNat + b.toNat + c.toNat)).msb != a.msb)) =
      leavesByte (a.toInt + b.toInt + c.toNat) := by
  have ha := a.isLt
  have hb := b.isLt
  have hc := c.toNat_le
  simp only [leavesByte, BitVec.msb_eq_decide, BitVec.toInt_eq_toNat_cond, BitVec.toNat_ofNat]
  rw [Bool.eq_iff_iff]
  simp only [Bool.and_eq_true, beq_iff_eq, bne_iff_ne, ne_eq, decide_eq_true_eq, decide_eq_decide]
  split <;> split <;> omega

/-- A minuend and a subtrahend of two signs and a difference of the subtrahend's: the signed difference is no byte. -/
theorem overflow_sub8 (a b : Byte) (c : Bool) :
    ((a.msb != b.msb) && ((BitVec.ofNat 8 (256 + a.toNat - b.toNat - c.toNat)).msb != a.msb)) =
      leavesByte (a.toInt - b.toInt - c.toNat) := by
  have ha := a.isLt
  have hb := b.isLt
  have hc := c.toNat_le
  simp only [leavesByte, BitVec.msb_eq_decide, BitVec.toInt_eq_toNat_cond, BitVec.toNat_ofNat]
  rw [Bool.eq_iff_iff]
  simp only [Bool.and_eq_true, bne_iff_ne, ne_eq, decide_eq_true_eq, decide_eq_decide]
  split <;> split <;> omega

theorem overflow_add16 (a b : Word) (c : Bool) :
    ((a.msb == b.msb) && ((BitVec.ofNat 16 (a.toNat + b.toNat + c.toNat)).msb != a.msb)) =
      leavesWord (a.toInt + b.toInt + c.toNat) := by
  have ha := a.isLt
  have hb := b.isLt
  have hc := c.toNat_le
  simp only [leavesWord, BitVec.msb_eq_decide, BitVec.toInt_eq_toNat_cond, BitVec.toNat_ofNat]
  rw [Bool.eq_iff_iff]
  simp only [Bool.and_eq_true, beq_iff_eq, bne_iff_ne, ne_eq, decide_eq_true_eq, decide_eq_decide]
  split <;> split <;> omega

theorem overflow_sub16 (a b : Word) (c : Bool) :
    ((a.msb != b.msb) && ((BitVec.ofNat 16 (65536 + a.toNat - b.toNat - c.toNat)).msb != a.msb)) =
      leavesWord (a.toInt - b.toInt - c.toNat) := by
  have ha := a.isLt
  have hb := b.isLt
  have hc := c.toNat_le
  simp only [leavesWord, BitVec.msb_eq_decide, BitVec.toInt_eq_toNat_cond, BitVec.toNat_ofNat]
  rw [Bool.eq_iff_iff]
  simp only [Bool.and_eq_true, bne_iff_ne, ne_eq, decide_eq_true_eq, decide_eq_decide]
  split <;> split <;> omega

/-! ## The adders (R270, R271, R301, R302) -/

/-- An exact difference narrowed to a byte. -/
theorem ofInt_sub8 (a b : Byte) (c : Bool) :
    BitVec.ofInt 8 ((a.toNat : Int) - b.toNat - c.toNat) = BitVec.ofNat 8 (256 + a.toNat - b.toNat - c.toNat) := by
  have hb := b.isLt
  have hc := c.toNat_le
  apply BitVec.eq_of_toNat_eq
  simp only [BitVec.toNat_ofInt, BitVec.toNat_ofNat]
  omega

/-- An exact difference narrowed to a word. -/
theorem ofInt_sub16 (a b : Word) (c : Bool) :
    BitVec.ofInt 16 ((a.toNat : Int) - b.toNat - c.toNat) = BitVec.ofNat 16 (65536 + a.toNat - b.toNat - c.toNat) := by
  have hb := b.isLt
  have hc := c.toNat_le
  apply BitVec.eq_of_toNat_eq
  simp only [BitVec.toNat_ofInt, BitVec.toNat_ofNat]
  omega

theorem add8_eq (a b : Byte) (c : Bool) :
    add8 a b c =
      let res := BitVec.ofNat 8 (a.toNat + b.toNat + c.toNat)
      (res,
        { s := res.msb, z := res == 0, y := res.getLsbD 5, h := decide (15 < a.toNat % 16 + b.toNat % 16 + c.toNat),
          x := res.getLsbD 3, pv := leavesByte (a.toInt + b.toInt + c.toNat), n := false,
          c := decide (255 < a.toNat + b.toNat + c.toNat) }) := by
  have h := overflow_add8 a b c
  simp only [BitVec.msb_eq_getLsbD_last] at h
  simp only [add8, bit_eq, ← h, BitVec.msb_eq_getLsbD_last]

theorem sub8_eq (a b : Byte) (c : Bool) :
    sub8 a b c =
      let res := BitVec.ofNat 8 (256 + a.toNat - b.toNat - c.toNat)
      (res,
        { s := res.msb, z := res == 0, y := res.getLsbD 5, h := decide (a.toNat % 16 < b.toNat % 16 + c.toNat),
          x := res.getLsbD 3, pv := leavesByte (a.toInt - b.toInt - c.toNat), n := true,
          c := decide (a.toNat < b.toNat + c.toNat) }) := by
  have h := overflow_sub8 a b c
  simp only [BitVec.msb_eq_getLsbD_last] at h
  have h1 : decide ((a.toNat % 16 : Int) - (b.toNat % 16 : Int) - c.toNat < 0) =
      decide (a.toNat % 16 < b.toNat % 16 + c.toNat) := by rw [decide_eq_decide]; omega
  have h2 : decide ((a.toNat : Int) - b.toNat - c.toNat < 0) = decide (a.toNat < b.toNat + c.toNat) := by
    rw [decide_eq_decide]; omega
  simp only [sub8, bit_eq, ofInt_sub8, ← h, BitVec.msb_eq_getLsbD_last, h1, h2]

theorem adc16_eq (a b : Word) (c : Bool) :
    adc16 a b c =
      let res := BitVec.ofNat 16 (a.toNat + b.toNat + c.toNat)
      (res,
        { s := res.msb, z := res == 0, y := res.getLsbD 13,
          h := decide (0xFFF < a.toNat % 4096 + b.toNat % 4096 + c.toNat), x := res.getLsbD 11,
          pv := leavesWord (a.toInt + b.toInt + c.toNat), n := false,
          c := decide (0xFFFF < a.toNat + b.toNat + c.toNat) }) := by
  have h := overflow_add16 a b c
  simp only [BitVec.msb_eq_getLsbD_last] at h
  simp only [adc16, bit_eq, ← h, BitVec.msb_eq_getLsbD_last]

theorem sbc16_eq (a b : Word) (c : Bool) :
    sbc16 a b c =
      let res := BitVec.ofNat 16 (65536 + a.toNat - b.toNat - c.toNat)
      (res,
        { s := res.msb, z := res == 0, y := res.getLsbD 13,
          h := decide (a.toNat % 4096 < b.toNat % 4096 + c.toNat), x := res.getLsbD 11,
          pv := leavesWord (a.toInt - b.toInt - c.toNat), n := true, c := decide (a.toNat < b.toNat + c.toNat) }) := by
  have h := overflow_sub16 a b c
  simp only [BitVec.msb_eq_getLsbD_last] at h
  have h1 : decide ((a.toNat % 4096 : Int) - (b.toNat % 4096 : Int) - c.toNat < 0) =
      decide (a.toNat % 4096 < b.toNat % 4096 + c.toNat) := by rw [decide_eq_decide]; omega
  have h2 : decide ((a.toNat : Int) - b.toNat - c.toNat < 0) = decide (a.toNat < b.toNat + c.toNat) := by
    rw [decide_eq_decide]; omega
  simp only [sbc16, bit_eq, ofInt_sub16, ← h, BitVec.msb_eq_getLsbD_last, h1, h2]

/-! ## Rotates and shifts (R325 to R331) -/

/-- The machine's operation for each rotate and shift. -/
def ShiftOp.machine : ShiftOp → Byte → Bool → Shifted
  | .rlc => Machine.rlc
  | .rl => Machine.rl
  | .rrc => Machine.rrc
  | .rr => Machine.rr
  | .sla => Machine.sla
  | .sra => Machine.sra
  | .srl => Machine.srl

theorem ShiftOp.machine_eq (op : ShiftOp) (m : Byte) (c : Bool) : op.machine m c = (op.result m c, op.carry m) := by
  cases op <;> cases c <;> revert m <;> decide

/-! ## Conditions (R126) -/

theorem cond_eq (s : State) (cc : Cond) : s.cond cc = cc.on s.regs.f := by cases cc <;> rfl

theorem jrCond_eq (s : State) (k : JrCond) : s.jrCond k = k.on s.regs.f := by cases k <;> rfl

end Sys2Proof
end

