-- ==== Sys2Proof/Laws/State.lean ====
section
/-! SUPPORT. One lemma per field per named update of the state, each true by computation. An update by a pair, a stack pair or
an index register goes by the case of its operand to the updates below. -/

namespace Sys2Proof.Machine

/-! ### `State.store` -/

@[simp] theorem State.store_regs (s : State) (a : Word) (v : Byte) : (s.store a v).regs = s.regs := rfl
@[simp] theorem State.store_shadow (s : State) (a : Word) (v : Byte) : (s.store a v).shadow = s.shadow := rfl
@[simp] theorem State.store_ix (s : State) (a : Word) (v : Byte) : (s.store a v).ix = s.ix := rfl
@[simp] theorem State.store_iy (s : State) (a : Word) (v : Byte) : (s.store a v).iy = s.iy := rfl
@[simp] theorem State.store_sp (s : State) (a : Word) (v : Byte) : (s.store a v).sp = s.sp := rfl
@[simp] theorem State.store_pc (s : State) (a : Word) (v : Byte) : (s.store a v).pc = s.pc := rfl
@[simp] theorem State.store_i (s : State) (a : Word) (v : Byte) : (s.store a v).i = s.i := rfl
@[simp] theorem State.store_r (s : State) (a : Word) (v : Byte) : (s.store a v).r = s.r := rfl
@[simp] theorem State.store_iff1 (s : State) (a : Word) (v : Byte) : (s.store a v).iff1 = s.iff1 := rfl
@[simp] theorem State.store_iff2 (s : State) (a : Word) (v : Byte) : (s.store a v).iff2 = s.iff2 := rfl
@[simp] theorem State.store_im (s : State) (a : Word) (v : Byte) : (s.store a v).im = s.im := rfl
@[simp] theorem State.store_halted (s : State) (a : Word) (v : Byte) : (s.store a v).halted = s.halted := rfl
@[simp] theorem State.store_eiShadow (s : State) (a : Word) (v : Byte) : (s.store a v).eiShadow = s.eiShadow := rfl
@[simp] theorem State.store_nmiPending (s : State) (a : Word) (v : Byte) :
    (s.store a v).nmiPending = s.nmiPending := rfl
@[simp] theorem State.store_cycles (s : State) (a : Word) (v : Byte) : (s.store a v).cycles = s.cycles := rfl
@[simp] theorem State.store_marks (s : State) (a : Word) (v : Byte) : (s.store a v).marks = s.marks := rfl
@[simp] theorem State.store_romBanks (s : State) (a : Word) (v : Byte) : (s.store a v).romBanks = s.romBanks := rfl
@[simp] theorem State.store_slots (s : State) (a : Word) (v : Byte) : (s.store a v).slots = s.slots.control a v := rfl
@[simp] theorem State.store_ram (s : State) (a : Word) (v : Byte) : (s.store a v).ram = ramAfter s.ram a v := rfl
@[simp] theorem State.store_cart (s : State) (a : Word) (v : Byte) : (s.store a v).cart = s.cart := rfl
@[simp] theorem State.store_powered (s : State) (a : Word) (v : Byte) : (s.store a v).powered = s.powered := rfl
@[simp] theorem State.store_fault (s : State) (a : Word) (v : Byte) : (s.store a v).fault = s.fault := rfl
@[simp] theorem State.store_diag (s : State) (a : Word) (v : Byte) : (s.store a v).diag = s.diag := rfl
@[simp] theorem State.store_frameAcc (s : State) (a : Word) (v : Byte) : (s.store a v).frameAcc = s.frameAcc := rfl
@[simp] theorem State.store_callback (s : State) (a : Word) (v : Byte) : (s.store a v).callback = s.callback := rfl
@[simp] theorem State.store_displayBuffer (s : State) (a : Word) (v : Byte) :
    (s.store a v).displayBuffer = s.displayBuffer := rfl
@[simp] theorem State.store_runState (s : State) (a : Word) (v : Byte) : (s.store a v).runState = s.runState := rfl
@[simp] theorem State.store_intLine (s : State) (a : Word) (v : Byte) : (s.store a v).intLine = s.intLine := rfl
@[simp] theorem State.store_busByte (s : State) (a : Word) (v : Byte) : (s.store a v).busByte = s.busByte := rfl
@[simp] theorem State.store_ioAnswers (s : State) (a : Word) (v : Byte) : (s.store a v).ioAnswers = s.ioAnswers := rfl
@[simp] theorem State.store_callbackOff (s : State) (a : Word) (v : Byte) :
    (s.store a v).callbackOff = s.callbackOff := rfl
@[simp] theorem State.store_asyncOff (s : State) (a : Word) (v : Byte) : (s.store a v).asyncOff = s.asyncOff := rfl
@[simp] theorem State.store_events (s : State) (a : Word) (v : Byte) : (s.store a v).events = s.events := rfl
@[simp] theorem State.store_draws (s : State) (a : Word) (v : Byte) : (s.store a v).draws = s.draws := rfl

/-! ### `State.popped` -/

@[simp] theorem State.popped_regs (s : State) : (s.popped).regs = s.regs := rfl
@[simp] theorem State.popped_shadow (s : State) : (s.popped).shadow = s.shadow := rfl
@[simp] theorem State.popped_ix (s : State) : (s.popped).ix = s.ix := rfl
@[simp] theorem State.popped_iy (s : State) : (s.popped).iy = s.iy := rfl
@[simp] theorem State.popped_sp (s : State) : (s.popped).sp = s.sp + 2 := rfl
@[simp] theorem State.popped_pc (s : State) : (s.popped).pc = s.pc := rfl
@[simp] theorem State.popped_i (s : State) : (s.popped).i = s.i := rfl
@[simp] theorem State.popped_r (s : State) : (s.popped).r = s.r := rfl
@[simp] theorem State.popped_iff1 (s : State) : (s.popped).iff1 = s.iff1 := rfl
@[simp] theorem State.popped_iff2 (s : State) : (s.popped).iff2 = s.iff2 := rfl
@[simp] theorem State.popped_im (s : State) : (s.popped).im = s.im := rfl
@[simp] theorem State.popped_halted (s : State) : (s.popped).halted = s.halted := rfl
@[simp] theorem State.popped_eiShadow (s : State) : (s.popped).eiShadow = s.eiShadow := rfl
@[simp] theorem State.popped_nmiPending (s : State) : (s.popped).nmiPending = s.nmiPending := rfl
@[simp] theorem State.popped_cycles (s : State) : (s.popped).cycles = s.cycles := rfl
@[simp] theorem State.popped_marks (s : State) : (s.popped).marks = s.marks := rfl
@[simp] theorem State.popped_romBanks (s : State) : (s.popped).romBanks = s.romBanks := rfl
@[simp] theorem State.popped_slots (s : State) : (s.popped).slots = s.slots := rfl
@[simp] theorem State.popped_ram (s : State) : (s.popped).ram = s.ram := rfl
@[simp] theorem State.popped_cart (s : State) : (s.popped).cart = s.cart := rfl
@[simp] theorem State.popped_powered (s : State) : (s.popped).powered = s.powered := rfl
@[simp] theorem State.popped_fault (s : State) : (s.popped).fault = s.fault := rfl
@[simp] theorem State.popped_diag (s : State) : (s.popped).diag = s.diag := rfl
@[simp] theorem State.popped_frameAcc (s : State) : (s.popped).frameAcc = s.frameAcc := rfl
@[simp] theorem State.popped_callback (s : State) : (s.popped).callback = s.callback := rfl
@[simp] theorem State.popped_displayBuffer (s : State) : (s.popped).displayBuffer = s.displayBuffer := rfl
@[simp] theorem State.popped_runState (s : State) : (s.popped).runState = s.runState := rfl
@[simp] theorem State.popped_intLine (s : State) : (s.popped).intLine = s.intLine := rfl
@[simp] theorem State.popped_busByte (s : State) : (s.popped).busByte = s.busByte := rfl
@[simp] theorem State.popped_ioAnswers (s : State) : (s.popped).ioAnswers = s.ioAnswers := rfl
@[simp] theorem State.popped_callbackOff (s : State) : (s.popped).callbackOff = s.callbackOff := rfl
@[simp] theorem State.popped_asyncOff (s : State) : (s.popped).asyncOff = s.asyncOff := rfl
@[simp] theorem State.popped_events (s : State) : (s.popped).events = s.events := rfl
@[simp] theorem State.popped_draws (s : State) : (s.popped).draws = s.draws := rfl

/-! ### `State.jump` -/

@[simp] theorem State.jump_regs (s : State) (w : Word) : (s.jump w).regs = s.regs := rfl
@[simp] theorem State.jump_shadow (s : State) (w : Word) : (s.jump w).shadow = s.shadow := rfl
@[simp] theorem State.jump_ix (s : State) (w : Word) : (s.jump w).ix = s.ix := rfl
@[simp] theorem State.jump_iy (s : State) (w : Word) : (s.jump w).iy = s.iy := rfl
@[simp] theorem State.jump_sp (s : State) (w : Word) : (s.jump w).sp = s.sp := rfl
@[simp] theorem State.jump_pc (s : State) (w : Word) : (s.jump w).pc = w := rfl
@[simp] theorem State.jump_i (s : State) (w : Word) : (s.jump w).i = s.i := rfl
@[simp] theorem State.jump_r (s : State) (w : Word) : (s.jump w).r = s.r := rfl
@[simp] theorem State.jump_iff1 (s : State) (w : Word) : (s.jump w).iff1 = s.iff1 := rfl
@[simp] theorem State.jump_iff2 (s : State) (w : Word) : (s.jump w).iff2 = s.iff2 := rfl
@[simp] theorem State.jump_im (s : State) (w : Word) : (s.jump w).im = s.im := rfl
@[simp] theorem State.jump_halted (s : State) (w : Word) : (s.jump w).halted = s.halted := rfl
@[simp] theorem State.jump_eiShadow (s : State) (w : Word) : (s.jump w).eiShadow = s.eiShadow := rfl
@[simp] theorem State.jump_nmiPending (s : State) (w : Word) : (s.jump w).nmiPending = s.nmiPending := rfl
@[simp] theorem State.jump_cycles (s : State) (w : Word) : (s.jump w).cycles = s.cycles := rfl
@[simp] theorem State.jump_marks (s : State) (w : Word) : (s.jump w).marks = s.marks := rfl
@[simp] theorem State.jump_romBanks (s : State) (w : Word) : (s.jump w).romBanks = s.romBanks := rfl
@[simp] theorem State.jump_slots (s : State) (w : Word) : (s.jump w).slots = s.slots := rfl
@[simp] theorem State.jump_ram (s : State) (w : Word) : (s.jump w).ram = s.ram := rfl
@[simp] theorem State.jump_cart (s : State) (w : Word) : (s.jump w).cart = s.cart := rfl
@[simp] theorem State.jump_powered (s : State) (w : Word) : (s.jump w).powered = s.powered := rfl
@[simp] theorem State.jump_fault (s : State) (w : Word) : (s.jump w).fault = s.fault := rfl
@[simp] theorem State.jump_diag (s : State) (w : Word) : (s.jump w).diag = s.diag := rfl
@[simp] theorem State.jump_frameAcc (s : State) (w : Word) : (s.jump w).frameAcc = s.frameAcc := rfl
@[simp] theorem State.jump_callback (s : State) (w : Word) : (s.jump w).callback = s.callback := rfl
@[simp] theorem State.jump_displayBuffer (s : State) (w : Word) : (s.jump w).displayBuffer = s.displayBuffer := rfl
@[simp] theorem State.jump_runState (s : State) (w : Word) : (s.jump w).runState = s.runState := rfl
@[simp] theorem State.jump_intLine (s : State) (w : Word) : (s.jump w).intLine = s.intLine := rfl
@[simp] theorem State.jump_busByte (s : State) (w : Word) : (s.jump w).busByte = s.busByte := rfl
@[simp] theorem State.jump_ioAnswers (s : State) (w : Word) : (s.jump w).ioAnswers = s.ioAnswers := rfl
@[simp] theorem State.jump_callbackOff (s : State) (w : Word) : (s.jump w).callbackOff = s.callbackOff := rfl
@[simp] theorem State.jump_asyncOff (s : State) (w : Word) : (s.jump w).asyncOff = s.asyncOff := rfl
@[simp] theorem State.jump_events (s : State) (w : Word) : (s.jump w).events = s.events := rfl
@[simp] theorem State.jump_draws (s : State) (w : Word) : (s.jump w).draws = s.draws := rfl

/-! ### `State.rInc` -/

@[simp] theorem State.rInc_regs (s : State) : (s.rInc).regs = s.regs := rfl
@[simp] theorem State.rInc_shadow (s : State) : (s.rInc).shadow = s.shadow := rfl
@[simp] theorem State.rInc_ix (s : State) : (s.rInc).ix = s.ix := rfl
@[simp] theorem State.rInc_iy (s : State) : (s.rInc).iy = s.iy := rfl
@[simp] theorem State.rInc_sp (s : State) : (s.rInc).sp = s.sp := rfl
@[simp] theorem State.rInc_pc (s : State) : (s.rInc).pc = s.pc := rfl
@[simp] theorem State.rInc_i (s : State) : (s.rInc).i = s.i := rfl
@[simp] theorem State.rInc_r (s : State) : (s.rInc).r = refresh s.r := rfl
@[simp] theorem State.rInc_iff1 (s : State) : (s.rInc).iff1 = s.iff1 := rfl
@[simp] theorem State.rInc_iff2 (s : State) : (s.rInc).iff2 = s.iff2 := rfl
@[simp] theorem State.rInc_im (s : State) : (s.rInc).im = s.im := rfl
@[simp] theorem State.rInc_halted (s : State) : (s.rInc).halted = s.halted := rfl
@[simp] theorem State.rInc_eiShadow (s : State) : (s.rInc).eiShadow = s.eiShadow := rfl
@[simp] theorem State.rInc_nmiPending (s : State) : (s.rInc).nmiPending = s.nmiPending := rfl
@[simp] theorem State.rInc_cycles (s : State) : (s.rInc).cycles = s.cycles := rfl
@[simp] theorem State.rInc_marks (s : State) : (s.rInc).marks = s.marks := rfl
@[simp] theorem State.rInc_romBanks (s : State) : (s.rInc).romBanks = s.romBanks := rfl
@[simp] theorem State.rInc_slots (s : State) : (s.rInc).slots = s.slots := rfl
@[simp] theorem State.rInc_ram (s : State) : (s.rInc).ram = s.ram := rfl
@[simp] theorem State.rInc_cart (s : State) : (s.rInc).cart = s.cart := rfl
@[simp] theorem State.rInc_powered (s : State) : (s.rInc).powered = s.powered := rfl
@[simp] theorem State.rInc_fault (s : State) : (s.rInc).fault = s.fault := rfl
@[simp] theorem State.rInc_diag (s : State) : (s.rInc).diag = s.diag := rfl
@[simp] theorem State.rInc_frameAcc (s : State) : (s.rInc).frameAcc = s.frameAcc := rfl
@[simp] theorem State.rInc_callback (s : State) : (s.rInc).callback = s.callback := rfl
@[simp] theorem State.rInc_displayBuffer (s : State) : (s.rInc).displayBuffer = s.displayBuffer := rfl
@[simp] theorem State.rInc_runState (s : State) : (s.rInc).runState = s.runState := rfl
@[simp] theorem State.rInc_intLine (s : State) : (s.rInc).intLine = s.intLine := rfl
@[simp] theorem State.rInc_busByte (s : State) : (s.rInc).busByte = s.busByte := rfl
@[simp] theorem State.rInc_ioAnswers (s : State) : (s.rInc).ioAnswers = s.ioAnswers := rfl
@[simp] theorem State.rInc_callbackOff (s : State) : (s.rInc).callbackOff = s.callbackOff := rfl
@[simp] theorem State.rInc_asyncOff (s : State) : (s.rInc).asyncOff = s.asyncOff := rfl
@[simp] theorem State.rInc_events (s : State) : (s.rInc).events = s.events := rfl
@[simp] theorem State.rInc_draws (s : State) : (s.rInc).draws = s.draws := rfl

/-! ### `State.spend` -/

@[simp] theorem State.spend_regs (s : State) (n : Nat) : (s.spend n).regs = s.regs := rfl
@[simp] theorem State.spend_shadow (s : State) (n : Nat) : (s.spend n).shadow = s.shadow := rfl
@[simp] theorem State.spend_ix (s : State) (n : Nat) : (s.spend n).ix = s.ix := rfl
@[simp] theorem State.spend_iy (s : State) (n : Nat) : (s.spend n).iy = s.iy := rfl
@[simp] theorem State.spend_sp (s : State) (n : Nat) : (s.spend n).sp = s.sp := rfl
@[simp] theorem State.spend_pc (s : State) (n : Nat) : (s.spend n).pc = s.pc := rfl
@[simp] theorem State.spend_i (s : State) (n : Nat) : (s.spend n).i = s.i := rfl
@[simp] theorem State.spend_r (s : State) (n : Nat) : (s.spend n).r = s.r := rfl
@[simp] theorem State.spend_iff1 (s : State) (n : Nat) : (s.spend n).iff1 = s.iff1 := rfl
@[simp] theorem State.spend_iff2 (s : State) (n : Nat) : (s.spend n).iff2 = s.iff2 := rfl
@[simp] theorem State.spend_im (s : State) (n : Nat) : (s.spend n).im = s.im := rfl
@[simp] theorem State.spend_halted (s : State) (n : Nat) : (s.spend n).halted = s.halted := rfl
@[simp] theorem State.spend_eiShadow (s : State) (n : Nat) : (s.spend n).eiShadow = s.eiShadow := rfl
@[simp] theorem State.spend_nmiPending (s : State) (n : Nat) : (s.spend n).nmiPending = s.nmiPending := rfl
@[simp] theorem State.spend_cycles (s : State) (n : Nat) : (s.spend n).cycles = s.cycles + n := rfl
@[simp] theorem State.spend_marks (s : State) (n : Nat) : (s.spend n).marks = s.marks := rfl
@[simp] theorem State.spend_romBanks (s : State) (n : Nat) : (s.spend n).romBanks = s.romBanks := rfl
@[simp] theorem State.spend_slots (s : State) (n : Nat) : (s.spend n).slots = s.slots := rfl
@[simp] theorem State.spend_ram (s : State) (n : Nat) : (s.spend n).ram = s.ram := rfl
@[simp] theorem State.spend_cart (s : State) (n : Nat) : (s.spend n).cart = s.cart := rfl
@[simp] theorem State.spend_powered (s : State) (n : Nat) : (s.spend n).powered = s.powered := rfl
@[simp] theorem State.spend_fault (s : State) (n : Nat) : (s.spend n).fault = s.fault := rfl
@[simp] theorem State.spend_diag (s : State) (n : Nat) : (s.spend n).diag = s.diag := rfl
@[simp] theorem State.spend_frameAcc (s : State) (n : Nat) : (s.spend n).frameAcc = s.frameAcc := rfl
@[simp] theorem State.spend_callback (s : State) (n : Nat) : (s.spend n).callback = s.callback := rfl
@[simp] theorem State.spend_displayBuffer (s : State) (n : Nat) : (s.spend n).displayBuffer = s.displayBuffer := rfl
@[simp] theorem State.spend_runState (s : State) (n : Nat) : (s.spend n).runState = s.runState := rfl
@[simp] theorem State.spend_intLine (s : State) (n : Nat) : (s.spend n).intLine = s.intLine := rfl
@[simp] theorem State.spend_busByte (s : State) (n : Nat) : (s.spend n).busByte = s.busByte := rfl
@[simp] theorem State.spend_ioAnswers (s : State) (n : Nat) : (s.spend n).ioAnswers = s.ioAnswers := rfl
@[simp] theorem State.spend_callbackOff (s : State) (n : Nat) : (s.spend n).callbackOff = s.callbackOff := rfl
@[simp] theorem State.spend_asyncOff (s : State) (n : Nat) : (s.spend n).asyncOff = s.asyncOff := rfl
@[simp] theorem State.spend_events (s : State) (n : Nat) : (s.spend n).events = s.events := rfl
@[simp] theorem State.spend_draws (s : State) (n : Nat) : (s.spend n).draws = s.draws := rfl

/-! ### `State.drew` -/

@[simp] theorem State.drew_regs (s : State) : (s.drew).regs = s.regs := rfl
@[simp] theorem State.drew_shadow (s : State) : (s.drew).shadow = s.shadow := rfl
@[simp] theorem State.drew_ix (s : State) : (s.drew).ix = s.ix := rfl
@[simp] theorem State.drew_iy (s : State) : (s.drew).iy = s.iy := rfl
@[simp] theorem State.drew_sp (s : State) : (s.drew).sp = s.sp := rfl
@[simp] theorem State.drew_pc (s : State) : (s.drew).pc = s.pc := rfl
@[simp] theorem State.drew_i (s : State) : (s.drew).i = s.i := rfl
@[simp] theorem State.drew_r (s : State) : (s.drew).r = s.r := rfl
@[simp] theorem State.drew_iff1 (s : State) : (s.drew).iff1 = s.iff1 := rfl
@[simp] theorem State.drew_iff2 (s : State) : (s.drew).iff2 = s.iff2 := rfl
@[simp] theorem State.drew_im (s : State) : (s.drew).im = s.im := rfl
@[simp] theorem State.drew_halted (s : State) : (s.drew).halted = s.halted := rfl
@[simp] theorem State.drew_eiShadow (s : State) : (s.drew).eiShadow = s.eiShadow := rfl
@[simp] theorem State.drew_nmiPending (s : State) : (s.drew).nmiPending = s.nmiPending := rfl
@[simp] theorem State.drew_cycles (s : State) : (s.drew).cycles = s.cycles := rfl
@[simp] theorem State.drew_marks (s : State) : (s.drew).marks = s.marks := rfl
@[simp] theorem State.drew_romBanks (s : State) : (s.drew).romBanks = s.romBanks := rfl
@[simp] theorem State.drew_slots (s : State) : (s.drew).slots = s.slots := rfl
@[simp] theorem State.drew_ram (s : State) : (s.drew).ram = s.ram := rfl
@[simp] theorem State.drew_cart (s : State) : (s.drew).cart = s.cart := rfl
@[simp] theorem State.drew_powered (s : State) : (s.drew).powered = s.powered := rfl
@[simp] theorem State.drew_fault (s : State) : (s.drew).fault = s.fault := rfl
@[simp] theorem State.drew_diag (s : State) : (s.drew).diag = s.diag := rfl
@[simp] theorem State.drew_frameAcc (s : State) : (s.drew).frameAcc = s.frameAcc := rfl
@[simp] theorem State.drew_callback (s : State) : (s.drew).callback = s.callback := rfl
@[simp] theorem State.drew_displayBuffer (s : State) : (s.drew).displayBuffer = s.displayBuffer := rfl
@[simp] theorem State.drew_runState (s : State) : (s.drew).runState = s.runState := rfl
@[simp] theorem State.drew_intLine (s : State) : (s.drew).intLine = s.intLine := rfl
@[simp] theorem State.drew_busByte (s : State) : (s.drew).busByte = s.busByte := rfl
@[simp] theorem State.drew_ioAnswers (s : State) : (s.drew).ioAnswers = s.ioAnswers := rfl
@[simp] theorem State.drew_callbackOff (s : State) : (s.drew).callbackOff = s.callbackOff := rfl
@[simp] theorem State.drew_asyncOff (s : State) : (s.drew).asyncOff = s.asyncOff := rfl
@[simp] theorem State.drew_events (s : State) : (s.drew).events = s.events := rfl
@[simp] theorem State.drew_draws (s : State) : (s.drew).draws = s.draws + 1 := rfl

/-! ### `State.ioRead` -/

@[simp] theorem State.ioRead_regs (s : State) (p : Word) : (s.ioRead p).regs = s.regs := rfl
@[simp] theorem State.ioRead_shadow (s : State) (p : Word) : (s.ioRead p).shadow = s.shadow := rfl
@[simp] theorem State.ioRead_ix (s : State) (p : Word) : (s.ioRead p).ix = s.ix := rfl
@[simp] theorem State.ioRead_iy (s : State) (p : Word) : (s.ioRead p).iy = s.iy := rfl
@[simp] theorem State.ioRead_sp (s : State) (p : Word) : (s.ioRead p).sp = s.sp := rfl
@[simp] theorem State.ioRead_pc (s : State) (p : Word) : (s.ioRead p).pc = s.pc := rfl
@[simp] theorem State.ioRead_i (s : State) (p : Word) : (s.ioRead p).i = s.i := rfl
@[simp] theorem State.ioRead_r (s : State) (p : Word) : (s.ioRead p).r = s.r := rfl
@[simp] theorem State.ioRead_iff1 (s : State) (p : Word) : (s.ioRead p).iff1 = s.iff1 := rfl
@[simp] theorem State.ioRead_iff2 (s : State) (p : Word) : (s.ioRead p).iff2 = s.iff2 := rfl
@[simp] theorem State.ioRead_im (s : State) (p : Word) : (s.ioRead p).im = s.im := rfl
@[simp] theorem State.ioRead_halted (s : State) (p : Word) : (s.ioRead p).halted = s.halted := rfl
@[simp] theorem State.ioRead_eiShadow (s : State) (p : Word) : (s.ioRead p).eiShadow = s.eiShadow := rfl
@[simp] theorem State.ioRead_nmiPending (s : State) (p : Word) : (s.ioRead p).nmiPending = s.nmiPending := rfl
@[simp] theorem State.ioRead_cycles (s : State) (p : Word) : (s.ioRead p).cycles = s.cycles := rfl
@[simp] theorem State.ioRead_marks (s : State) (p : Word) : (s.ioRead p).marks = s.marks := rfl
@[simp] theorem State.ioRead_romBanks (s : State) (p : Word) : (s.ioRead p).romBanks = s.romBanks := rfl
@[simp] theorem State.ioRead_slots (s : State) (p : Word) : (s.ioRead p).slots = s.slots := rfl
@[simp] theorem State.ioRead_ram (s : State) (p : Word) : (s.ioRead p).ram = s.ram := rfl
@[simp] theorem State.ioRead_cart (s : State) (p : Word) : (s.ioRead p).cart = s.cart := rfl
@[simp] theorem State.ioRead_powered (s : State) (p : Word) : (s.ioRead p).powered = s.powered := rfl
@[simp] theorem State.ioRead_fault (s : State) (p : Word) : (s.ioRead p).fault = s.fault := rfl
@[simp] theorem State.ioRead_diag (s : State) (p : Word) : (s.ioRead p).diag = s.diag := rfl
@[simp] theorem State.ioRead_frameAcc (s : State) (p : Word) : (s.ioRead p).frameAcc = s.frameAcc := rfl
@[simp] theorem State.ioRead_callback (s : State) (p : Word) : (s.ioRead p).callback = s.callback := rfl
@[simp] theorem State.ioRead_displayBuffer (s : State) (p : Word) : (s.ioRead p).displayBuffer = s.displayBuffer := rfl
@[simp] theorem State.ioRead_runState (s : State) (p : Word) : (s.ioRead p).runState = s.runState := rfl
@[simp] theorem State.ioRead_intLine (s : State) (p : Word) : (s.ioRead p).intLine = s.intLine := rfl
@[simp] theorem State.ioRead_busByte (s : State) (p : Word) : (s.ioRead p).busByte = s.busByte := rfl
@[simp] theorem State.ioRead_ioAnswers (s : State) (p : Word) : (s.ioRead p).ioAnswers = s.ioAnswers.tail := rfl
@[simp] theorem State.ioRead_callbackOff (s : State) (p : Word) : (s.ioRead p).callbackOff = s.callbackOff := rfl
@[simp] theorem State.ioRead_asyncOff (s : State) (p : Word) : (s.ioRead p).asyncOff = s.asyncOff := rfl
@[simp] theorem State.ioRead_events (s : State) (p : Word) : (s.ioRead p).events = s.events ++ [.ioRead p] := rfl
@[simp] theorem State.ioRead_draws (s : State) (p : Word) : (s.ioRead p).draws = s.draws + 1 := rfl

/-! ### `State.ioWrite` -/

@[simp] theorem State.ioWrite_regs (s : State) (p : Word) (v : Byte) : (s.ioWrite p v).regs = s.regs := rfl
@[simp] theorem State.ioWrite_shadow (s : State) (p : Word) (v : Byte) : (s.ioWrite p v).shadow = s.shadow := rfl
@[simp] theorem State.ioWrite_ix (s : State) (p : Word) (v : Byte) : (s.ioWrite p v).ix = s.ix := rfl
@[simp] theorem State.ioWrite_iy (s : State) (p : Word) (v : Byte) : (s.ioWrite p v).iy = s.iy := rfl
@[simp] theorem State.ioWrite_sp (s : State) (p : Word) (v : Byte) : (s.ioWrite p v).sp = s.sp := rfl
@[simp] theorem State.ioWrite_pc (s : State) (p : Word) (v : Byte) : (s.ioWrite p v).pc = s.pc := rfl
@[simp] theorem State.ioWrite_i (s : State) (p : Word) (v : Byte) : (s.ioWrite p v).i = s.i := rfl
@[simp] theorem State.ioWrite_r (s : State) (p : Word) (v : Byte) : (s.ioWrite p v).r = s.r := rfl
@[simp] theorem State.ioWrite_iff1 (s : State) (p : Word) (v : Byte) : (s.ioWrite p v).iff1 = s.iff1 := rfl
@[simp] theorem State.ioWrite_iff2 (s : State) (p : Word) (v : Byte) : (s.ioWrite p v).iff2 = s.iff2 := rfl
@[simp] theorem State.ioWrite_im (s : State) (p : Word) (v : Byte) : (s.ioWrite p v).im = s.im := rfl
@[simp] theorem State.ioWrite_halted (s : State) (p : Word) (v : Byte) : (s.ioWrite p v).halted = s.halted := rfl
@[simp] theorem State.ioWrite_eiShadow (s : State) (p : Word) (v : Byte) : (s.ioWrite p v).eiShadow = s.eiShadow := rfl
@[simp] theorem State.ioWrite_nmiPending (s : State) (p : Word) (v : Byte) :
    (s.ioWrite p v).nmiPending = s.nmiPending := rfl
@[simp] theorem State.ioWrite_cycles (s : State) (p : Word) (v : Byte) : (s.ioWrite p v).cycles = s.cycles := rfl
@[simp] theorem State.ioWrite_marks (s : State) (p : Word) (v : Byte) : (s.ioWrite p v).marks = s.marks := rfl
@[simp] theorem State.ioWrite_romBanks (s : State) (p : Word) (v : Byte) : (s.ioWrite p v).romBanks = s.romBanks := rfl
@[simp] theorem State.ioWrite_slots (s : State) (p : Word) (v : Byte) : (s.ioWrite p v).slots = s.slots := rfl
@[simp] theorem State.ioWrite_ram (s : State) (p : Word) (v : Byte) : (s.ioWrite p v).ram = s.ram := rfl
@[simp] theorem State.ioWrite_cart (s : State) (p : Word) (v : Byte) : (s.ioWrite p v).cart = s.cart := rfl
@[simp] theorem State.ioWrite_powered (s : State) (p : Word) (v : Byte) : (s.ioWrite p v).powered = s.powered := rfl
@[simp] theorem State.ioWrite_fault (s : State) (p : Word) (v : Byte) : (s.ioWrite p v).fault = s.fault := rfl
@[simp] theorem State.ioWrite_diag (s : State) (p : Word) (v : Byte) : (s.ioWrite p v).diag = s.diag := rfl
@[simp] theorem State.ioWrite_frameAcc (s : State) (p : Word) (v : Byte) : (s.ioWrite p v).frameAcc = s.frameAcc := rfl
@[simp] theorem State.ioWrite_callback (s : State) (p : Word) (v : Byte) : (s.ioWrite p v).callback = s.callback := rfl
@[simp] theorem State.ioWrite_displayBuffer (s : State) (p : Word) (v : Byte) :
    (s.ioWrite p v).displayBuffer = s.displayBuffer := rfl
@[simp] theorem State.ioWrite_runState (s : State) (p : Word) (v : Byte) : (s.ioWrite p v).runState = s.runState := rfl
@[simp] theorem State.ioWrite_intLine (s : State) (p : Word) (v : Byte) : (s.ioWrite p v).intLine = s.intLine := rfl
@[simp] theorem State.ioWrite_busByte (s : State) (p : Word) (v : Byte) : (s.ioWrite p v).busByte = s.busByte := rfl
@[simp] theorem State.ioWrite_ioAnswers (s : State) (p : Word) (v : Byte) :
    (s.ioWrite p v).ioAnswers = s.ioAnswers := rfl
@[simp] theorem State.ioWrite_callbackOff (s : State) (p : Word) (v : Byte) :
    (s.ioWrite p v).callbackOff = s.callbackOff := rfl
@[simp] theorem State.ioWrite_asyncOff (s : State) (p : Word) (v : Byte) : (s.ioWrite p v).asyncOff = s.asyncOff := rfl
@[simp] theorem State.ioWrite_events (s : State) (p : Word) (v : Byte) :
    (s.ioWrite p v).events = s.events ++ [.ioWrite p v] := rfl
@[simp] theorem State.ioWrite_draws (s : State) (p : Word) (v : Byte) : (s.ioWrite p v).draws = s.draws := rfl

/-! ### `State.intAck` -/

@[simp] theorem State.intAck_regs (s : State) : (s.intAck).regs = s.regs := rfl
@[simp] theorem State.intAck_shadow (s : State) : (s.intAck).shadow = s.shadow := rfl
@[simp] theorem State.intAck_ix (s : State) : (s.intAck).ix = s.ix := rfl
@[simp] theorem State.intAck_iy (s : State) : (s.intAck).iy = s.iy := rfl
@[simp] theorem State.intAck_sp (s : State) : (s.intAck).sp = s.sp := rfl
@[simp] theorem State.intAck_pc (s : State) : (s.intAck).pc = s.pc := rfl
@[simp] theorem State.intAck_i (s : State) : (s.intAck).i = s.i := rfl
@[simp] theorem State.intAck_r (s : State) : (s.intAck).r = s.r := rfl
@[simp] theorem State.intAck_iff1 (s : State) : (s.intAck).iff1 = s.iff1 := rfl
@[simp] theorem State.intAck_iff2 (s : State) : (s.intAck).iff2 = s.iff2 := rfl
@[simp] theorem State.intAck_im (s : State) : (s.intAck).im = s.im := rfl
@[simp] theorem State.intAck_halted (s : State) : (s.intAck).halted = s.halted := rfl
@[simp] theorem State.intAck_eiShadow (s : State) : (s.intAck).eiShadow = s.eiShadow := rfl
@[simp] theorem State.intAck_nmiPending (s : State) : (s.intAck).nmiPending = s.nmiPending := rfl
@[simp] theorem State.intAck_cycles (s : State) : (s.intAck).cycles = s.cycles := rfl
@[simp] theorem State.intAck_marks (s : State) : (s.intAck).marks = s.marks := rfl
@[simp] theorem State.intAck_romBanks (s : State) : (s.intAck).romBanks = s.romBanks := rfl
@[simp] theorem State.intAck_slots (s : State) : (s.intAck).slots = s.slots := rfl
@[simp] theorem State.intAck_ram (s : State) : (s.intAck).ram = s.ram := rfl
@[simp] theorem State.intAck_cart (s : State) : (s.intAck).cart = s.cart := rfl
@[simp] theorem State.intAck_powered (s : State) : (s.intAck).powered = s.powered := rfl
@[simp] theorem State.intAck_fault (s : State) : (s.intAck).fault = s.fault := rfl
@[simp] theorem State.intAck_diag (s : State) : (s.intAck).diag = s.diag := rfl
@[simp] theorem State.intAck_frameAcc (s : State) : (s.intAck).frameAcc = s.frameAcc := rfl
@[simp] theorem State.intAck_callback (s : State) : (s.intAck).callback = s.callback := rfl
@[simp] theorem State.intAck_displayBuffer (s : State) : (s.intAck).displayBuffer = s.displayBuffer := rfl
@[simp] theorem State.intAck_runState (s : State) : (s.intAck).runState = s.runState := rfl
@[simp] theorem State.intAck_intLine (s : State) : (s.intAck).intLine = s.intLine := rfl
@[simp] theorem State.intAck_busByte (s : State) : (s.intAck).busByte = s.busByte := rfl
@[simp] theorem State.intAck_ioAnswers (s : State) : (s.intAck).ioAnswers = s.ioAnswers := rfl
@[simp] theorem State.intAck_callbackOff (s : State) : (s.intAck).callbackOff = s.callbackOff := rfl
@[simp] theorem State.intAck_asyncOff (s : State) : (s.intAck).asyncOff = s.asyncOff := rfl
@[simp] theorem State.intAck_events (s : State) : (s.intAck).events = s.events ++ [.intAck s.busByte] := rfl
@[simp] theorem State.intAck_draws (s : State) : (s.intAck).draws = s.draws := rfl

/-! ### `State.setReg8` -/

@[simp] theorem State.setReg8_regs (s : State) (x : Reg8) (v : Byte) : (s.setReg8 x v).regs = s.regs.set x v := rfl
@[simp] theorem State.setReg8_shadow (s : State) (x : Reg8) (v : Byte) : (s.setReg8 x v).shadow = s.shadow := rfl
@[simp] theorem State.setReg8_ix (s : State) (x : Reg8) (v : Byte) : (s.setReg8 x v).ix = s.ix := rfl
@[simp] theorem State.setReg8_iy (s : State) (x : Reg8) (v : Byte) : (s.setReg8 x v).iy = s.iy := rfl
@[simp] theorem State.setReg8_sp (s : State) (x : Reg8) (v : Byte) : (s.setReg8 x v).sp = s.sp := rfl
@[simp] theorem State.setReg8_pc (s : State) (x : Reg8) (v : Byte) : (s.setReg8 x v).pc = s.pc := rfl
@[simp] theorem State.setReg8_i (s : State) (x : Reg8) (v : Byte) : (s.setReg8 x v).i = s.i := rfl
@[simp] theorem State.setReg8_r (s : State) (x : Reg8) (v : Byte) : (s.setReg8 x v).r = s.r := rfl
@[simp] theorem State.setReg8_iff1 (s : State) (x : Reg8) (v : Byte) : (s.setReg8 x v).iff1 = s.iff1 := rfl
@[simp] theorem State.setReg8_iff2 (s : State) (x : Reg8) (v : Byte) : (s.setReg8 x v).iff2 = s.iff2 := rfl
@[simp] theorem State.setReg8_im (s : State) (x : Reg8) (v : Byte) : (s.setReg8 x v).im = s.im := rfl
@[simp] theorem State.setReg8_halted (s : State) (x : Reg8) (v : Byte) : (s.setReg8 x v).halted = s.halted := rfl
@[simp] theorem State.setReg8_eiShadow (s : State) (x : Reg8) (v : Byte) : (s.setReg8 x v).eiShadow = s.eiShadow := rfl
@[simp] theorem State.setReg8_nmiPending (s : State) (x : Reg8) (v : Byte) :
    (s.setReg8 x v).nmiPending = s.nmiPending := rfl
@[simp] theorem State.setReg8_cycles (s : State) (x : Reg8) (v : Byte) : (s.setReg8 x v).cycles = s.cycles := rfl
@[simp] theorem State.setReg8_marks (s : State) (x : Reg8) (v : Byte) : (s.setReg8 x v).marks = s.marks := rfl
@[simp] theorem State.setReg8_romBanks (s : State) (x : Reg8) (v : Byte) : (s.setReg8 x v).romBanks = s.romBanks := rfl
@[simp] theorem State.setReg8_slots (s : State) (x : Reg8) (v : Byte) : (s.setReg8 x v).slots = s.slots := rfl
@[simp] theorem State.setReg8_ram (s : State) (x : Reg8) (v : Byte) : (s.setReg8 x v).ram = s.ram := rfl
@[simp] theorem State.setReg8_cart (s : State) (x : Reg8) (v : Byte) : (s.setReg8 x v).cart = s.cart := rfl
@[simp] theorem State.setReg8_powered (s : State) (x : Reg8) (v : Byte) : (s.setReg8 x v).powered = s.powered := rfl
@[simp] theorem State.setReg8_fault (s : State) (x : Reg8) (v : Byte) : (s.setReg8 x v).fault = s.fault := rfl
@[simp] theorem State.setReg8_diag (s : State) (x : Reg8) (v : Byte) : (s.setReg8 x v).diag = s.diag := rfl
@[simp] theorem State.setReg8_frameAcc (s : State) (x : Reg8) (v : Byte) : (s.setReg8 x v).frameAcc = s.frameAcc := rfl
@[simp] theorem State.setReg8_callback (s : State) (x : Reg8) (v : Byte) : (s.setReg8 x v).callback = s.callback := rfl
@[simp] theorem State.setReg8_displayBuffer (s : State) (x : Reg8) (v : Byte) :
    (s.setReg8 x v).displayBuffer = s.displayBuffer := rfl
@[simp] theorem State.setReg8_runState (s : State) (x : Reg8) (v : Byte) : (s.setReg8 x v).runState = s.runState := rfl
@[simp] theorem State.setReg8_intLine (s : State) (x : Reg8) (v : Byte) : (s.setReg8 x v).intLine = s.intLine := rfl
@[simp] theorem State.setReg8_busByte (s : State) (x : Reg8) (v : Byte) : (s.setReg8 x v).busByte = s.busByte := rfl
@[simp] theorem State.setReg8_ioAnswers (s : State) (x : Reg8) (v : Byte) :
    (s.setReg8 x v).ioAnswers = s.ioAnswers := rfl
@[simp] theorem State.setReg8_callbackOff (s : State) (x : Reg8) (v : Byte) :
    (s.setReg8 x v).callbackOff = s.callbackOff := rfl
@[simp] theorem State.setReg8_asyncOff (s : State) (x : Reg8) (v : Byte) : (s.setReg8 x v).asyncOff = s.asyncOff := rfl
@[simp] theorem State.setReg8_events (s : State) (x : Reg8) (v : Byte) : (s.setReg8 x v).events = s.events := rfl
@[simp] theorem State.setReg8_draws (s : State) (x : Reg8) (v : Byte) : (s.setReg8 x v).draws = s.draws := rfl

/-! ### `State.setA` -/

@[simp] theorem State.setA_regs (s : State) (v : Byte) : (s.setA v).regs = { s.regs with a := v } := rfl
@[simp] theorem State.setA_shadow (s : State) (v : Byte) : (s.setA v).shadow = s.shadow := rfl
@[simp] theorem State.setA_ix (s : State) (v : Byte) : (s.setA v).ix = s.ix := rfl
@[simp] theorem State.setA_iy (s : State) (v : Byte) : (s.setA v).iy = s.iy := rfl
@[simp] theorem State.setA_sp (s : State) (v : Byte) : (s.setA v).sp = s.sp := rfl
@[simp] theorem State.setA_pc (s : State) (v : Byte) : (s.setA v).pc = s.pc := rfl
@[simp] theorem State.setA_i (s : State) (v : Byte) : (s.setA v).i = s.i := rfl
@[simp] theorem State.setA_r (s : State) (v : Byte) : (s.setA v).r = s.r := rfl
@[simp] theorem State.setA_iff1 (s : State) (v : Byte) : (s.setA v).iff1 = s.iff1 := rfl
@[simp] theorem State.setA_iff2 (s : State) (v : Byte) : (s.setA v).iff2 = s.iff2 := rfl
@[simp] theorem State.setA_im (s : State) (v : Byte) : (s.setA v).im = s.im := rfl
@[simp] theorem State.setA_halted (s : State) (v : Byte) : (s.setA v).halted = s.halted := rfl
@[simp] theorem State.setA_eiShadow (s : State) (v : Byte) : (s.setA v).eiShadow = s.eiShadow := rfl
@[simp] theorem State.setA_nmiPending (s : State) (v : Byte) : (s.setA v).nmiPending = s.nmiPending := rfl
@[simp] theorem State.setA_cycles (s : State) (v : Byte) : (s.setA v).cycles = s.cycles := rfl
@[simp] theorem State.setA_marks (s : State) (v : Byte) : (s.setA v).marks = s.marks := rfl
@[simp] theorem State.setA_romBanks (s : State) (v : Byte) : (s.setA v).romBanks = s.romBanks := rfl
@[simp] theorem State.setA_slots (s : State) (v : Byte) : (s.setA v).slots = s.slots := rfl
@[simp] theorem State.setA_ram (s : State) (v : Byte) : (s.setA v).ram = s.ram := rfl
@[simp] theorem State.setA_cart (s : State) (v : Byte) : (s.setA v).cart = s.cart := rfl
@[simp] theorem State.setA_powered (s : State) (v : Byte) : (s.setA v).powered = s.powered := rfl
@[simp] theorem State.setA_fault (s : State) (v : Byte) : (s.setA v).fault = s.fault := rfl
@[simp] theorem State.setA_diag (s : State) (v : Byte) : (s.setA v).diag = s.diag := rfl
@[simp] theorem State.setA_frameAcc (s : State) (v : Byte) : (s.setA v).frameAcc = s.frameAcc := rfl
@[simp] theorem State.setA_callback (s : State) (v : Byte) : (s.setA v).callback = s.callback := rfl
@[simp] theorem State.setA_displayBuffer (s : State) (v : Byte) : (s.setA v).displayBuffer = s.displayBuffer := rfl
@[simp] theorem State.setA_runState (s : State) (v : Byte) : (s.setA v).runState = s.runState := rfl
@[simp] theorem State.setA_intLine (s : State) (v : Byte) : (s.setA v).intLine = s.intLine := rfl
@[simp] theorem State.setA_busByte (s : State) (v : Byte) : (s.setA v).busByte = s.busByte := rfl
@[simp] theorem State.setA_ioAnswers (s : State) (v : Byte) : (s.setA v).ioAnswers = s.ioAnswers := rfl
@[simp] theorem State.setA_callbackOff (s : State) (v : Byte) : (s.setA v).callbackOff = s.callbackOff := rfl
@[simp] theorem State.setA_asyncOff (s : State) (v : Byte) : (s.setA v).asyncOff = s.asyncOff := rfl
@[simp] theorem State.setA_events (s : State) (v : Byte) : (s.setA v).events = s.events := rfl
@[simp] theorem State.setA_draws (s : State) (v : Byte) : (s.setA v).draws = s.draws := rfl

/-! ### `State.setB` -/

@[simp] theorem State.setB_regs (s : State) (v : Byte) : (s.setB v).regs = { s.regs with b := v } := rfl
@[simp] theorem State.setB_shadow (s : State) (v : Byte) : (s.setB v).shadow = s.shadow := rfl
@[simp] theorem State.setB_ix (s : State) (v : Byte) : (s.setB v).ix = s.ix := rfl
@[simp] theorem State.setB_iy (s : State) (v : Byte) : (s.setB v).iy = s.iy := rfl
@[simp] theorem State.setB_sp (s : State) (v : Byte) : (s.setB v).sp = s.sp := rfl
@[simp] theorem State.setB_pc (s : State) (v : Byte) : (s.setB v).pc = s.pc := rfl
@[simp] theorem State.setB_i (s : State) (v : Byte) : (s.setB v).i = s.i := rfl
@[simp] theorem State.setB_r (s : State) (v : Byte) : (s.setB v).r = s.r := rfl
@[simp] theorem State.setB_iff1 (s : State) (v : Byte) : (s.setB v).iff1 = s.iff1 := rfl
@[simp] theorem State.setB_iff2 (s : State) (v : Byte) : (s.setB v).iff2 = s.iff2 := rfl
@[simp] theorem State.setB_im (s : State) (v : Byte) : (s.setB v).im = s.im := rfl
@[simp] theorem State.setB_halted (s : State) (v : Byte) : (s.setB v).halted = s.halted := rfl
@[simp] theorem State.setB_eiShadow (s : State) (v : Byte) : (s.setB v).eiShadow = s.eiShadow := rfl
@[simp] theorem State.setB_nmiPending (s : State) (v : Byte) : (s.setB v).nmiPending = s.nmiPending := rfl
@[simp] theorem State.setB_cycles (s : State) (v : Byte) : (s.setB v).cycles = s.cycles := rfl
@[simp] theorem State.setB_marks (s : State) (v : Byte) : (s.setB v).marks = s.marks := rfl
@[simp] theorem State.setB_romBanks (s : State) (v : Byte) : (s.setB v).romBanks = s.romBanks := rfl
@[simp] theorem State.setB_slots (s : State) (v : Byte) : (s.setB v).slots = s.slots := rfl
@[simp] theorem State.setB_ram (s : State) (v : Byte) : (s.setB v).ram = s.ram := rfl
@[simp] theorem State.setB_cart (s : State) (v : Byte) : (s.setB v).cart = s.cart := rfl
@[simp] theorem State.setB_powered (s : State) (v : Byte) : (s.setB v).powered = s.powered := rfl
@[simp] theorem State.setB_fault (s : State) (v : Byte) : (s.setB v).fault = s.fault := rfl
@[simp] theorem State.setB_diag (s : State) (v : Byte) : (s.setB v).diag = s.diag := rfl
@[simp] theorem State.setB_frameAcc (s : State) (v : Byte) : (s.setB v).frameAcc = s.frameAcc := rfl
@[simp] theorem State.setB_callback (s : State) (v : Byte) : (s.setB v).callback = s.callback := rfl
@[simp] theorem State.setB_displayBuffer (s : State) (v : Byte) : (s.setB v).displayBuffer = s.displayBuffer := rfl
@[simp] theorem State.setB_runState (s : State) (v : Byte) : (s.setB v).runState = s.runState := rfl
@[simp] theorem State.setB_intLine (s : State) (v : Byte) : (s.setB v).intLine = s.intLine := rfl
@[simp] theorem State.setB_busByte (s : State) (v : Byte) : (s.setB v).busByte = s.busByte := rfl
@[simp] theorem State.setB_ioAnswers (s : State) (v : Byte) : (s.setB v).ioAnswers = s.ioAnswers := rfl
@[simp] theorem State.setB_callbackOff (s : State) (v : Byte) : (s.setB v).callbackOff = s.callbackOff := rfl
@[simp] theorem State.setB_asyncOff (s : State) (v : Byte) : (s.setB v).asyncOff = s.asyncOff := rfl
@[simp] theorem State.setB_events (s : State) (v : Byte) : (s.setB v).events = s.events := rfl
@[simp] theorem State.setB_draws (s : State) (v : Byte) : (s.setB v).draws = s.draws := rfl

/-! ### `State.setAf` -/

@[simp] theorem State.setAf_regs (s : State) (w : Word) :
    (s.setAf w).regs = { s.regs with a := hi8 w, f := lo8 w } := rfl
@[simp] theorem State.setAf_shadow (s : State) (w : Word) : (s.setAf w).shadow = s.shadow := rfl
@[simp] theorem State.setAf_ix (s : State) (w : Word) : (s.setAf w).ix = s.ix := rfl
@[simp] theorem State.setAf_iy (s : State) (w : Word) : (s.setAf w).iy = s.iy := rfl
@[simp] theorem State.setAf_sp (s : State) (w : Word) : (s.setAf w).sp = s.sp := rfl
@[simp] theorem State.setAf_pc (s : State) (w : Word) : (s.setAf w).pc = s.pc := rfl
@[simp] theorem State.setAf_i (s : State) (w : Word) : (s.setAf w).i = s.i := rfl
@[simp] theorem State.setAf_r (s : State) (w : Word) : (s.setAf w).r = s.r := rfl
@[simp] theorem State.setAf_iff1 (s : State) (w : Word) : (s.setAf w).iff1 = s.iff1 := rfl
@[simp] theorem State.setAf_iff2 (s : State) (w : Word) : (s.setAf w).iff2 = s.iff2 := rfl
@[simp] theorem State.setAf_im (s : State) (w : Word) : (s.setAf w).im = s.im := rfl
@[simp] theorem State.setAf_halted (s : State) (w : Word) : (s.setAf w).halted = s.halted := rfl
@[simp] theorem State.setAf_eiShadow (s : State) (w : Word) : (s.setAf w).eiShadow = s.eiShadow := rfl
@[simp] theorem State.setAf_nmiPending (s : State) (w : Word) : (s.setAf w).nmiPending = s.nmiPending := rfl
@[simp] theorem State.setAf_cycles (s : State) (w : Word) : (s.setAf w).cycles = s.cycles := rfl
@[simp] theorem State.setAf_marks (s : State) (w : Word) : (s.setAf w).marks = s.marks := rfl
@[simp] theorem State.setAf_romBanks (s : State) (w : Word) : (s.setAf w).romBanks = s.romBanks := rfl
@[simp] theorem State.setAf_slots (s : State) (w : Word) : (s.setAf w).slots = s.slots := rfl
@[simp] theorem State.setAf_ram (s : State) (w : Word) : (s.setAf w).ram = s.ram := rfl
@[simp] theorem State.setAf_cart (s : State) (w : Word) : (s.setAf w).cart = s.cart := rfl
@[simp] theorem State.setAf_powered (s : State) (w : Word) : (s.setAf w).powered = s.powered := rfl
@[simp] theorem State.setAf_fault (s : State) (w : Word) : (s.setAf w).fault = s.fault := rfl
@[simp] theorem State.setAf_diag (s : State) (w : Word) : (s.setAf w).diag = s.diag := rfl
@[simp] theorem State.setAf_frameAcc (s : State) (w : Word) : (s.setAf w).frameAcc = s.frameAcc := rfl
@[simp] theorem State.setAf_callback (s : State) (w : Word) : (s.setAf w).callback = s.callback := rfl
@[simp] theorem State.setAf_displayBuffer (s : State) (w : Word) : (s.setAf w).displayBuffer = s.displayBuffer := rfl
@[simp] theorem State.setAf_runState (s : State) (w : Word) : (s.setAf w).runState = s.runState := rfl
@[simp] theorem State.setAf_intLine (s : State) (w : Word) : (s.setAf w).intLine = s.intLine := rfl
@[simp] theorem State.setAf_busByte (s : State) (w : Word) : (s.setAf w).busByte = s.busByte := rfl
@[simp] theorem State.setAf_ioAnswers (s : State) (w : Word) : (s.setAf w).ioAnswers = s.ioAnswers := rfl
@[simp] theorem State.setAf_callbackOff (s : State) (w : Word) : (s.setAf w).callbackOff = s.callbackOff := rfl
@[simp] theorem State.setAf_asyncOff (s : State) (w : Word) : (s.setAf w).asyncOff = s.asyncOff := rfl
@[simp] theorem State.setAf_events (s : State) (w : Word) : (s.setAf w).events = s.events := rfl
@[simp] theorem State.setAf_draws (s : State) (w : Word) : (s.setAf w).draws = s.draws := rfl

/-! ### `State.setBc` -/

@[simp] theorem State.setBc_regs (s : State) (w : Word) :
    (s.setBc w).regs = { s.regs with b := hi8 w, c := lo8 w } := rfl
@[simp] theorem State.setBc_shadow (s : State) (w : Word) : (s.setBc w).shadow = s.shadow := rfl
@[simp] theorem State.setBc_ix (s : State) (w : Word) : (s.setBc w).ix = s.ix := rfl
@[simp] theorem State.setBc_iy (s : State) (w : Word) : (s.setBc w).iy = s.iy := rfl
@[simp] theorem State.setBc_sp (s : State) (w : Word) : (s.setBc w).sp = s.sp := rfl
@[simp] theorem State.setBc_pc (s : State) (w : Word) : (s.setBc w).pc = s.pc := rfl
@[simp] theorem State.setBc_i (s : State) (w : Word) : (s.setBc w).i = s.i := rfl
@[simp] theorem State.setBc_r (s : State) (w : Word) : (s.setBc w).r = s.r := rfl
@[simp] theorem State.setBc_iff1 (s : State) (w : Word) : (s.setBc w).iff1 = s.iff1 := rfl
@[simp] theorem State.setBc_iff2 (s : State) (w : Word) : (s.setBc w).iff2 = s.iff2 := rfl
@[simp] theorem State.setBc_im (s : State) (w : Word) : (s.setBc w).im = s.im := rfl
@[simp] theorem State.setBc_halted (s : State) (w : Word) : (s.setBc w).halted = s.halted := rfl
@[simp] theorem State.setBc_eiShadow (s : State) (w : Word) : (s.setBc w).eiShadow = s.eiShadow := rfl
@[simp] theorem State.setBc_nmiPending (s : State) (w : Word) : (s.setBc w).nmiPending = s.nmiPending := rfl
@[simp] theorem State.setBc_cycles (s : State) (w : Word) : (s.setBc w).cycles = s.cycles := rfl
@[simp] theorem State.setBc_marks (s : State) (w : Word) : (s.setBc w).marks = s.marks := rfl
@[simp] theorem State.setBc_romBanks (s : State) (w : Word) : (s.setBc w).romBanks = s.romBanks := rfl
@[simp] theorem State.setBc_slots (s : State) (w : Word) : (s.setBc w).slots = s.slots := rfl
@[simp] theorem State.setBc_ram (s : State) (w : Word) : (s.setBc w).ram = s.ram := rfl
@[simp] theorem State.setBc_cart (s : State) (w : Word) : (s.setBc w).cart = s.cart := rfl
@[simp] theorem State.setBc_powered (s : State) (w : Word) : (s.setBc w).powered = s.powered := rfl
@[simp] theorem State.setBc_fault (s : State) (w : Word) : (s.setBc w).fault = s.fault := rfl
@[simp] theorem State.setBc_diag (s : State) (w : Word) : (s.setBc w).diag = s.diag := rfl
@[simp] theorem State.setBc_frameAcc (s : State) (w : Word) : (s.setBc w).frameAcc = s.frameAcc := rfl
@[simp] theorem State.setBc_callback (s : State) (w : Word) : (s.setBc w).callback = s.callback := rfl
@[simp] theorem State.setBc_displayBuffer (s : State) (w : Word) : (s.setBc w).displayBuffer = s.displayBuffer := rfl
@[simp] theorem State.setBc_runState (s : State) (w : Word) : (s.setBc w).runState = s.runState := rfl
@[simp] theorem State.setBc_intLine (s : State) (w : Word) : (s.setBc w).intLine = s.intLine := rfl
@[simp] theorem State.setBc_busByte (s : State) (w : Word) : (s.setBc w).busByte = s.busByte := rfl
@[simp] theorem State.setBc_ioAnswers (s : State) (w : Word) : (s.setBc w).ioAnswers = s.ioAnswers := rfl
@[simp] theorem State.setBc_callbackOff (s : State) (w : Word) : (s.setBc w).callbackOff = s.callbackOff := rfl
@[simp] theorem State.setBc_asyncOff (s : State) (w : Word) : (s.setBc w).asyncOff = s.asyncOff := rfl
@[simp] theorem State.setBc_events (s : State) (w : Word) : (s.setBc w).events = s.events := rfl
@[simp] theorem State.setBc_draws (s : State) (w : Word) : (s.setBc w).draws = s.draws := rfl

/-! ### `State.setDe` -/

@[simp] theorem State.setDe_regs (s : State) (w : Word) :
    (s.setDe w).regs = { s.regs with d := hi8 w, e := lo8 w } := rfl
@[simp] theorem State.setDe_shadow (s : State) (w : Word) : (s.setDe w).shadow = s.shadow := rfl
@[simp] theorem State.setDe_ix (s : State) (w : Word) : (s.setDe w).ix = s.ix := rfl
@[simp] theorem State.setDe_iy (s : State) (w : Word) : (s.setDe w).iy = s.iy := rfl
@[simp] theorem State.setDe_sp (s : State) (w : Word) : (s.setDe w).sp = s.sp := rfl
@[simp] theorem State.setDe_pc (s : State) (w : Word) : (s.setDe w).pc = s.pc := rfl
@[simp] theorem State.setDe_i (s : State) (w : Word) : (s.setDe w).i = s.i := rfl
@[simp] theorem State.setDe_r (s : State) (w : Word) : (s.setDe w).r = s.r := rfl
@[simp] theorem State.setDe_iff1 (s : State) (w : Word) : (s.setDe w).iff1 = s.iff1 := rfl
@[simp] theorem State.setDe_iff2 (s : State) (w : Word) : (s.setDe w).iff2 = s.iff2 := rfl
@[simp] theorem State.setDe_im (s : State) (w : Word) : (s.setDe w).im = s.im := rfl
@[simp] theorem State.setDe_halted (s : State) (w : Word) : (s.setDe w).halted = s.halted := rfl
@[simp] theorem State.setDe_eiShadow (s : State) (w : Word) : (s.setDe w).eiShadow = s.eiShadow := rfl
@[simp] theorem State.setDe_nmiPending (s : State) (w : Word) : (s.setDe w).nmiPending = s.nmiPending := rfl
@[simp] theorem State.setDe_cycles (s : State) (w : Word) : (s.setDe w).cycles = s.cycles := rfl
@[simp] theorem State.setDe_marks (s : State) (w : Word) : (s.setDe w).marks = s.marks := rfl
@[simp] theorem State.setDe_romBanks (s : State) (w : Word) : (s.setDe w).romBanks = s.romBanks := rfl
@[simp] theorem State.setDe_slots (s : State) (w : Word) : (s.setDe w).slots = s.slots := rfl
@[simp] theorem State.setDe_ram (s : State) (w : Word) : (s.setDe w).ram = s.ram := rfl
@[simp] theorem State.setDe_cart (s : State) (w : Word) : (s.setDe w).cart = s.cart := rfl
@[simp] theorem State.setDe_powered (s : State) (w : Word) : (s.setDe w).powered = s.powered := rfl
@[simp] theorem State.setDe_fault (s : State) (w : Word) : (s.setDe w).fault = s.fault := rfl
@[simp] theorem State.setDe_diag (s : State) (w : Word) : (s.setDe w).diag = s.diag := rfl
@[simp] theorem State.setDe_frameAcc (s : State) (w : Word) : (s.setDe w).frameAcc = s.frameAcc := rfl
@[simp] theorem State.setDe_callback (s : State) (w : Word) : (s.setDe w).callback = s.callback := rfl
@[simp] theorem State.setDe_displayBuffer (s : State) (w : Word) : (s.setDe w).displayBuffer = s.displayBuffer := rfl
@[simp] theorem State.setDe_runState (s : State) (w : Word) : (s.setDe w).runState = s.runState := rfl
@[simp] theorem State.setDe_intLine (s : State) (w : Word) : (s.setDe w).intLine = s.intLine := rfl
@[simp] theorem State.setDe_busByte (s : State) (w : Word) : (s.setDe w).busByte = s.busByte := rfl
@[simp] theorem State.setDe_ioAnswers (s : State) (w : Word) : (s.setDe w).ioAnswers = s.ioAnswers := rfl
@[simp] theorem State.setDe_callbackOff (s : State) (w : Word) : (s.setDe w).callbackOff = s.callbackOff := rfl
@[simp] theorem State.setDe_asyncOff (s : State) (w : Word) : (s.setDe w).asyncOff = s.asyncOff := rfl
@[simp] theorem State.setDe_events (s : State) (w : Word) : (s.setDe w).events = s.events := rfl
@[simp] theorem State.setDe_draws (s : State) (w : Word) : (s.setDe w).draws = s.draws := rfl

/-! ### `State.setHl` -/

@[simp] theorem State.setHl_regs (s : State) (w : Word) :
    (s.setHl w).regs = { s.regs with h := hi8 w, l := lo8 w } := rfl
@[simp] theorem State.setHl_shadow (s : State) (w : Word) : (s.setHl w).shadow = s.shadow := rfl
@[simp] theorem State.setHl_ix (s : State) (w : Word) : (s.setHl w).ix = s.ix := rfl
@[simp] theorem State.setHl_iy (s : State) (w : Word) : (s.setHl w).iy = s.iy := rfl
@[simp] theorem State.setHl_sp (s : State) (w : Word) : (s.setHl w).sp = s.sp := rfl
@[simp] theorem State.setHl_pc (s : State) (w : Word) : (s.setHl w).pc = s.pc := rfl
@[simp] theorem State.setHl_i (s : State) (w : Word) : (s.setHl w).i = s.i := rfl
@[simp] theorem State.setHl_r (s : State) (w : Word) : (s.setHl w).r = s.r := rfl
@[simp] theorem State.setHl_iff1 (s : State) (w : Word) : (s.setHl w).iff1 = s.iff1 := rfl
@[simp] theorem State.setHl_iff2 (s : State) (w : Word) : (s.setHl w).iff2 = s.iff2 := rfl
@[simp] theorem State.setHl_im (s : State) (w : Word) : (s.setHl w).im = s.im := rfl
@[simp] theorem State.setHl_halted (s : State) (w : Word) : (s.setHl w).halted = s.halted := rfl
@[simp] theorem State.setHl_eiShadow (s : State) (w : Word) : (s.setHl w).eiShadow = s.eiShadow := rfl
@[simp] theorem State.setHl_nmiPending (s : State) (w : Word) : (s.setHl w).nmiPending = s.nmiPending := rfl
@[simp] theorem State.setHl_cycles (s : State) (w : Word) : (s.setHl w).cycles = s.cycles := rfl
@[simp] theorem State.setHl_marks (s : State) (w : Word) : (s.setHl w).marks = s.marks := rfl
@[simp] theorem State.setHl_romBanks (s : State) (w : Word) : (s.setHl w).romBanks = s.romBanks := rfl
@[simp] theorem State.setHl_slots (s : State) (w : Word) : (s.setHl w).slots = s.slots := rfl
@[simp] theorem State.setHl_ram (s : State) (w : Word) : (s.setHl w).ram = s.ram := rfl
@[simp] theorem State.setHl_cart (s : State) (w : Word) : (s.setHl w).cart = s.cart := rfl
@[simp] theorem State.setHl_powered (s : State) (w : Word) : (s.setHl w).powered = s.powered := rfl
@[simp] theorem State.setHl_fault (s : State) (w : Word) : (s.setHl w).fault = s.fault := rfl
@[simp] theorem State.setHl_diag (s : State) (w : Word) : (s.setHl w).diag = s.diag := rfl
@[simp] theorem State.setHl_frameAcc (s : State) (w : Word) : (s.setHl w).frameAcc = s.frameAcc := rfl
@[simp] theorem State.setHl_callback (s : State) (w : Word) : (s.setHl w).callback = s.callback := rfl
@[simp] theorem State.setHl_displayBuffer (s : State) (w : Word) : (s.setHl w).displayBuffer = s.displayBuffer := rfl
@[simp] theorem State.setHl_runState (s : State) (w : Word) : (s.setHl w).runState = s.runState := rfl
@[simp] theorem State.setHl_intLine (s : State) (w : Word) : (s.setHl w).intLine = s.intLine := rfl
@[simp] theorem State.setHl_busByte (s : State) (w : Word) : (s.setHl w).busByte = s.busByte := rfl
@[simp] theorem State.setHl_ioAnswers (s : State) (w : Word) : (s.setHl w).ioAnswers = s.ioAnswers := rfl
@[simp] theorem State.setHl_callbackOff (s : State) (w : Word) : (s.setHl w).callbackOff = s.callbackOff := rfl
@[simp] theorem State.setHl_asyncOff (s : State) (w : Word) : (s.setHl w).asyncOff = s.asyncOff := rfl
@[simp] theorem State.setHl_events (s : State) (w : Word) : (s.setHl w).events = s.events := rfl
@[simp] theorem State.setHl_draws (s : State) (w : Word) : (s.setHl w).draws = s.draws := rfl

/-! ### `State.setSp` -/

@[simp] theorem State.setSp_regs (s : State) (w : Word) : (s.setSp w).regs = s.regs := rfl
@[simp] theorem State.setSp_shadow (s : State) (w : Word) : (s.setSp w).shadow = s.shadow := rfl
@[simp] theorem State.setSp_ix (s : State) (w : Word) : (s.setSp w).ix = s.ix := rfl
@[simp] theorem State.setSp_iy (s : State) (w : Word) : (s.setSp w).iy = s.iy := rfl
@[simp] theorem State.setSp_sp (s : State) (w : Word) : (s.setSp w).sp = w := rfl
@[simp] theorem State.setSp_pc (s : State) (w : Word) : (s.setSp w).pc = s.pc := rfl
@[simp] theorem State.setSp_i (s : State) (w : Word) : (s.setSp w).i = s.i := rfl
@[simp] theorem State.setSp_r (s : State) (w : Word) : (s.setSp w).r = s.r := rfl
@[simp] theorem State.setSp_iff1 (s : State) (w : Word) : (s.setSp w).iff1 = s.iff1 := rfl
@[simp] theorem State.setSp_iff2 (s : State) (w : Word) : (s.setSp w).iff2 = s.iff2 := rfl
@[simp] theorem State.setSp_im (s : State) (w : Word) : (s.setSp w).im = s.im := rfl
@[simp] theorem State.setSp_halted (s : State) (w : Word) : (s.setSp w).halted = s.halted := rfl
@[simp] theorem State.setSp_eiShadow (s : State) (w : Word) : (s.setSp w).eiShadow = s.eiShadow := rfl
@[simp] theorem State.setSp_nmiPending (s : State) (w : Word) : (s.setSp w).nmiPending = s.nmiPending := rfl
@[simp] theorem State.setSp_cycles (s : State) (w : Word) : (s.setSp w).cycles = s.cycles := rfl
@[simp] theorem State.setSp_marks (s : State) (w : Word) : (s.setSp w).marks = s.marks := rfl
@[simp] theorem State.setSp_romBanks (s : State) (w : Word) : (s.setSp w).romBanks = s.romBanks := rfl
@[simp] theorem State.setSp_slots (s : State) (w : Word) : (s.setSp w).slots = s.slots := rfl
@[simp] theorem State.setSp_ram (s : State) (w : Word) : (s.setSp w).ram = s.ram := rfl
@[simp] theorem State.setSp_cart (s : State) (w : Word) : (s.setSp w).cart = s.cart := rfl
@[simp] theorem State.setSp_powered (s : State) (w : Word) : (s.setSp w).powered = s.powered := rfl
@[simp] theorem State.setSp_fault (s : State) (w : Word) : (s.setSp w).fault = s.fault := rfl
@[simp] theorem State.setSp_diag (s : State) (w : Word) : (s.setSp w).diag = s.diag := rfl
@[simp] theorem State.setSp_frameAcc (s : State) (w : Word) : (s.setSp w).frameAcc = s.frameAcc := rfl
@[simp] theorem State.setSp_callback (s : State) (w : Word) : (s.setSp w).callback = s.callback := rfl
@[simp] theorem State.setSp_displayBuffer (s : State) (w : Word) : (s.setSp w).displayBuffer = s.displayBuffer := rfl
@[simp] theorem State.setSp_runState (s : State) (w : Word) : (s.setSp w).runState = s.runState := rfl
@[simp] theorem State.setSp_intLine (s : State) (w : Word) : (s.setSp w).intLine = s.intLine := rfl
@[simp] theorem State.setSp_busByte (s : State) (w : Word) : (s.setSp w).busByte = s.busByte := rfl
@[simp] theorem State.setSp_ioAnswers (s : State) (w : Word) : (s.setSp w).ioAnswers = s.ioAnswers := rfl
@[simp] theorem State.setSp_callbackOff (s : State) (w : Word) : (s.setSp w).callbackOff = s.callbackOff := rfl
@[simp] theorem State.setSp_asyncOff (s : State) (w : Word) : (s.setSp w).asyncOff = s.asyncOff := rfl
@[simp] theorem State.setSp_events (s : State) (w : Word) : (s.setSp w).events = s.events := rfl
@[simp] theorem State.setSp_draws (s : State) (w : Word) : (s.setSp w).draws = s.draws := rfl

/-! ### `State.setFlags` -/

@[simp] theorem State.setFlags_regs (s : State) (b : FlagBits) :
    (s.setFlags b).regs = { s.regs with f := b.toByte } := rfl
@[simp] theorem State.setFlags_shadow (s : State) (b : FlagBits) : (s.setFlags b).shadow = s.shadow := rfl
@[simp] theorem State.setFlags_ix (s : State) (b : FlagBits) : (s.setFlags b).ix = s.ix := rfl
@[simp] theorem State.setFlags_iy (s : State) (b : FlagBits) : (s.setFlags b).iy = s.iy := rfl
@[simp] theorem State.setFlags_sp (s : State) (b : FlagBits) : (s.setFlags b).sp = s.sp := rfl
@[simp] theorem State.setFlags_pc (s : State) (b : FlagBits) : (s.setFlags b).pc = s.pc := rfl
@[simp] theorem State.setFlags_i (s : State) (b : FlagBits) : (s.setFlags b).i = s.i := rfl
@[simp] theorem State.setFlags_r (s : State) (b : FlagBits) : (s.setFlags b).r = s.r := rfl
@[simp] theorem State.setFlags_iff1 (s : State) (b : FlagBits) : (s.setFlags b).iff1 = s.iff1 := rfl
@[simp] theorem State.setFlags_iff2 (s : State) (b : FlagBits) : (s.setFlags b).iff2 = s.iff2 := rfl
@[simp] theorem State.setFlags_im (s : State) (b : FlagBits) : (s.setFlags b).im = s.im := rfl
@[simp] theorem State.setFlags_halted (s : State) (b : FlagBits) : (s.setFlags b).halted = s.halted := rfl
@[simp] theorem State.setFlags_eiShadow (s : State) (b : FlagBits) : (s.setFlags b).eiShadow = s.eiShadow := rfl
@[simp] theorem State.setFlags_nmiPending (s : State) (b : FlagBits) : (s.setFlags b).nmiPending = s.nmiPending := rfl
@[simp] theorem State.setFlags_cycles (s : State) (b : FlagBits) : (s.setFlags b).cycles = s.cycles := rfl
@[simp] theorem State.setFlags_marks (s : State) (b : FlagBits) : (s.setFlags b).marks = s.marks := rfl
@[simp] theorem State.setFlags_romBanks (s : State) (b : FlagBits) : (s.setFlags b).romBanks = s.romBanks := rfl
@[simp] theorem State.setFlags_slots (s : State) (b : FlagBits) : (s.setFlags b).slots = s.slots := rfl
@[simp] theorem State.setFlags_ram (s : State) (b : FlagBits) : (s.setFlags b).ram = s.ram := rfl
@[simp] theorem State.setFlags_cart (s : State) (b : FlagBits) : (s.setFlags b).cart = s.cart := rfl
@[simp] theorem State.setFlags_powered (s : State) (b : FlagBits) : (s.setFlags b).powered = s.powered := rfl
@[simp] theorem State.setFlags_fault (s : State) (b : FlagBits) : (s.setFlags b).fault = s.fault := rfl
@[simp] theorem State.setFlags_diag (s : State) (b : FlagBits) : (s.setFlags b).diag = s.diag := rfl
@[simp] theorem State.setFlags_frameAcc (s : State) (b : FlagBits) : (s.setFlags b).frameAcc = s.frameAcc := rfl
@[simp] theorem State.setFlags_callback (s : State) (b : FlagBits) : (s.setFlags b).callback = s.callback := rfl
@[simp] theorem State.setFlags_displayBuffer (s : State) (b : FlagBits) :
    (s.setFlags b).displayBuffer = s.displayBuffer := rfl
@[simp] theorem State.setFlags_runState (s : State) (b : FlagBits) : (s.setFlags b).runState = s.runState := rfl
@[simp] theorem State.setFlags_intLine (s : State) (b : FlagBits) : (s.setFlags b).intLine = s.intLine := rfl
@[simp] theorem State.setFlags_busByte (s : State) (b : FlagBits) : (s.setFlags b).busByte = s.busByte := rfl
@[simp] theorem State.setFlags_ioAnswers (s : State) (b : FlagBits) : (s.setFlags b).ioAnswers = s.ioAnswers := rfl
@[simp] theorem State.setFlags_callbackOff (s : State) (b : FlagBits) :
    (s.setFlags b).callbackOff = s.callbackOff := rfl
@[simp] theorem State.setFlags_asyncOff (s : State) (b : FlagBits) : (s.setFlags b).asyncOff = s.asyncOff := rfl
@[simp] theorem State.setFlags_events (s : State) (b : FlagBits) : (s.setFlags b).events = s.events := rfl
@[simp] theorem State.setFlags_draws (s : State) (b : FlagBits) : (s.setFlags b).draws = s.draws := rfl

/-! ### `State.storeWord` -/

@[simp] theorem State.storeWord_regs (s : State) (a w : Word) : (s.storeWord a w).regs = s.regs := rfl
@[simp] theorem State.storeWord_shadow (s : State) (a w : Word) : (s.storeWord a w).shadow = s.shadow := rfl
@[simp] theorem State.storeWord_ix (s : State) (a w : Word) : (s.storeWord a w).ix = s.ix := rfl
@[simp] theorem State.storeWord_iy (s : State) (a w : Word) : (s.storeWord a w).iy = s.iy := rfl
@[simp] theorem State.storeWord_sp (s : State) (a w : Word) : (s.storeWord a w).sp = s.sp := rfl
@[simp] theorem State.storeWord_pc (s : State) (a w : Word) : (s.storeWord a w).pc = s.pc := rfl
@[simp] theorem State.storeWord_i (s : State) (a w : Word) : (s.storeWord a w).i = s.i := rfl
@[simp] theorem State.storeWord_r (s : State) (a w : Word) : (s.storeWord a w).r = s.r := rfl
@[simp] theorem State.storeWord_iff1 (s : State) (a w : Word) : (s.storeWord a w).iff1 = s.iff1 := rfl
@[simp] theorem State.storeWord_iff2 (s : State) (a w : Word) : (s.storeWord a w).iff2 = s.iff2 := rfl
@[simp] theorem State.storeWord_im (s : State) (a w : Word) : (s.storeWord a w).im = s.im := rfl
@[simp] theorem State.storeWord_halted (s : State) (a w : Word) : (s.storeWord a w).halted = s.halted := rfl
@[simp] theorem State.storeWord_eiShadow (s : State) (a w : Word) : (s.storeWord a w).eiShadow = s.eiShadow := rfl
@[simp] theorem State.storeWord_nmiPending (s : State) (a w : Word) : (s.storeWord a w).nmiPending = s.nmiPending := rfl
@[simp] theorem State.storeWord_cycles (s : State) (a w : Word) : (s.storeWord a w).cycles = s.cycles := rfl
@[simp] theorem State.storeWord_marks (s : State) (a w : Word) : (s.storeWord a w).marks = s.marks := rfl
@[simp] theorem State.storeWord_romBanks (s : State) (a w : Word) : (s.storeWord a w).romBanks = s.romBanks := rfl
@[simp] theorem State.storeWord_slots (s : State) (a w : Word) :
    (s.storeWord a w).slots = (s.slots.control a (lo8 w)).control (a + 1) (hi8 w) := rfl
@[simp] theorem State.storeWord_ram (s : State) (a w : Word) :
    (s.storeWord a w).ram = ramAfter (ramAfter s.ram a (lo8 w)) (a + 1) (hi8 w) := rfl
@[simp] theorem State.storeWord_cart (s : State) (a w : Word) : (s.storeWord a w).cart = s.cart := rfl
@[simp] theorem State.storeWord_powered (s : State) (a w : Word) : (s.storeWord a w).powered = s.powered := rfl
@[simp] theorem State.storeWord_fault (s : State) (a w : Word) : (s.storeWord a w).fault = s.fault := rfl
@[simp] theorem State.storeWord_diag (s : State) (a w : Word) : (s.storeWord a w).diag = s.diag := rfl
@[simp] theorem State.storeWord_frameAcc (s : State) (a w : Word) : (s.storeWord a w).frameAcc = s.frameAcc := rfl
@[simp] theorem State.storeWord_callback (s : State) (a w : Word) : (s.storeWord a w).callback = s.callback := rfl
@[simp] theorem State.storeWord_displayBuffer (s : State) (a w : Word) :
    (s.storeWord a w).displayBuffer = s.displayBuffer := rfl
@[simp] theorem State.storeWord_runState (s : State) (a w : Word) : (s.storeWord a w).runState = s.runState := rfl
@[simp] theorem State.storeWord_intLine (s : State) (a w : Word) : (s.storeWord a w).intLine = s.intLine := rfl
@[simp] theorem State.storeWord_busByte (s : State) (a w : Word) : (s.storeWord a w).busByte = s.busByte := rfl
@[simp] theorem State.storeWord_ioAnswers (s : State) (a w : Word) : (s.storeWord a w).ioAnswers = s.ioAnswers := rfl
@[simp] theorem State.storeWord_callbackOff (s : State) (a w : Word) :
    (s.storeWord a w).callbackOff = s.callbackOff := rfl
@[simp] theorem State.storeWord_asyncOff (s : State) (a w : Word) : (s.storeWord a w).asyncOff = s.asyncOff := rfl
@[simp] theorem State.storeWord_events (s : State) (a w : Word) : (s.storeWord a w).events = s.events := rfl
@[simp] theorem State.storeWord_draws (s : State) (a w : Word) : (s.storeWord a w).draws = s.draws := rfl

/-! ### `State.push16` -/

@[simp] theorem State.push16_regs (s : State) (w : Word) : (s.push16 w).regs = s.regs := rfl
@[simp] theorem State.push16_shadow (s : State) (w : Word) : (s.push16 w).shadow = s.shadow := rfl
@[simp] theorem State.push16_ix (s : State) (w : Word) : (s.push16 w).ix = s.ix := rfl
@[simp] theorem State.push16_iy (s : State) (w : Word) : (s.push16 w).iy = s.iy := rfl
@[simp] theorem State.push16_sp (s : State) (w : Word) : (s.push16 w).sp = s.sp - 2 := rfl
@[simp] theorem State.push16_pc (s : State) (w : Word) : (s.push16 w).pc = s.pc := rfl
@[simp] theorem State.push16_i (s : State) (w : Word) : (s.push16 w).i = s.i := rfl
@[simp] theorem State.push16_r (s : State) (w : Word) : (s.push16 w).r = s.r := rfl
@[simp] theorem State.push16_iff1 (s : State) (w : Word) : (s.push16 w).iff1 = s.iff1 := rfl
@[simp] theorem State.push16_iff2 (s : State) (w : Word) : (s.push16 w).iff2 = s.iff2 := rfl
@[simp] theorem State.push16_im (s : State) (w : Word) : (s.push16 w).im = s.im := rfl
@[simp] theorem State.push16_halted (s : State) (w : Word) : (s.push16 w).halted = s.halted := rfl
@[simp] theorem State.push16_eiShadow (s : State) (w : Word) : (s.push16 w).eiShadow = s.eiShadow := rfl
@[simp] theorem State.push16_nmiPending (s : State) (w : Word) : (s.push16 w).nmiPending = s.nmiPending := rfl
@[simp] theorem State.push16_cycles (s : State) (w : Word) : (s.push16 w).cycles = s.cycles := rfl
@[simp] theorem State.push16_marks (s : State) (w : Word) : (s.push16 w).marks = s.marks := rfl
@[simp] theorem State.push16_romBanks (s : State) (w : Word) : (s.push16 w).romBanks = s.romBanks := rfl
@[simp] theorem State.push16_slots (s : State) (w : Word) :
    (s.push16 w).slots = (s.slots.control (s.sp - 1) (hi8 w)).control (s.sp - 2) (lo8 w) := rfl
@[simp] theorem State.push16_ram (s : State) (w : Word) :
    (s.push16 w).ram = ramAfter (ramAfter s.ram (s.sp - 1) (hi8 w)) (s.sp - 2) (lo8 w) := rfl
@[simp] theorem State.push16_cart (s : State) (w : Word) : (s.push16 w).cart = s.cart := rfl
@[simp] theorem State.push16_powered (s : State) (w : Word) : (s.push16 w).powered = s.powered := rfl
@[simp] theorem State.push16_fault (s : State) (w : Word) : (s.push16 w).fault = s.fault := rfl
@[simp] theorem State.push16_diag (s : State) (w : Word) : (s.push16 w).diag = s.diag := rfl
@[simp] theorem State.push16_frameAcc (s : State) (w : Word) : (s.push16 w).frameAcc = s.frameAcc := rfl
@[simp] theorem State.push16_callback (s : State) (w : Word) : (s.push16 w).callback = s.callback := rfl
@[simp] theorem State.push16_displayBuffer (s : State) (w : Word) : (s.push16 w).displayBuffer = s.displayBuffer := rfl
@[simp] theorem State.push16_runState (s : State) (w : Word) : (s.push16 w).runState = s.runState := rfl
@[simp] theorem State.push16_intLine (s : State) (w : Word) : (s.push16 w).intLine = s.intLine := rfl
@[simp] theorem State.push16_busByte (s : State) (w : Word) : (s.push16 w).busByte = s.busByte := rfl
@[simp] theorem State.push16_ioAnswers (s : State) (w : Word) : (s.push16 w).ioAnswers = s.ioAnswers := rfl
@[simp] theorem State.push16_callbackOff (s : State) (w : Word) : (s.push16 w).callbackOff = s.callbackOff := rfl
@[simp] theorem State.push16_asyncOff (s : State) (w : Word) : (s.push16 w).asyncOff = s.asyncOff := rfl
@[simp] theorem State.push16_events (s : State) (w : Word) : (s.push16 w).events = s.events := rfl
@[simp] theorem State.push16_draws (s : State) (w : Word) : (s.push16 w).draws = s.draws := rfl

/-! ### `State.tick` -/

@[simp] theorem State.tick_regs (s : State) (n : Nat) : (s.tick n).regs = s.regs := rfl
@[simp] theorem State.tick_shadow (s : State) (n : Nat) : (s.tick n).shadow = s.shadow := rfl
@[simp] theorem State.tick_ix (s : State) (n : Nat) : (s.tick n).ix = s.ix := rfl
@[simp] theorem State.tick_iy (s : State) (n : Nat) : (s.tick n).iy = s.iy := rfl
@[simp] theorem State.tick_sp (s : State) (n : Nat) : (s.tick n).sp = s.sp := rfl
@[simp] theorem State.tick_pc (s : State) (n : Nat) : (s.tick n).pc = s.pc := rfl
@[simp] theorem State.tick_i (s : State) (n : Nat) : (s.tick n).i = s.i := rfl
@[simp] theorem State.tick_r (s : State) (n : Nat) : (s.tick n).r = s.r := rfl
@[simp] theorem State.tick_iff1 (s : State) (n : Nat) : (s.tick n).iff1 = s.iff1 := rfl
@[simp] theorem State.tick_iff2 (s : State) (n : Nat) : (s.tick n).iff2 = s.iff2 := rfl
@[simp] theorem State.tick_im (s : State) (n : Nat) : (s.tick n).im = s.im := rfl
@[simp] theorem State.tick_halted (s : State) (n : Nat) : (s.tick n).halted = s.halted := rfl
@[simp] theorem State.tick_eiShadow (s : State) (n : Nat) : (s.tick n).eiShadow = s.eiShadow := rfl
@[simp] theorem State.tick_nmiPending (s : State) (n : Nat) : (s.tick n).nmiPending = s.nmiPending := rfl
@[simp] theorem State.tick_cycles (s : State) (n : Nat) : (s.tick n).cycles = s.cycles := rfl
@[simp] theorem State.tick_marks (s : State) (n : Nat) : (s.tick n).marks = s.marks := rfl
@[simp] theorem State.tick_romBanks (s : State) (n : Nat) : (s.tick n).romBanks = s.romBanks := rfl
@[simp] theorem State.tick_slots (s : State) (n : Nat) : (s.tick n).slots = s.slots := rfl
@[simp] theorem State.tick_ram (s : State) (n : Nat) : (s.tick n).ram = s.ram := rfl
@[simp] theorem State.tick_cart (s : State) (n : Nat) : (s.tick n).cart = s.cart := rfl
@[simp] theorem State.tick_powered (s : State) (n : Nat) : (s.tick n).powered = s.powered := rfl
@[simp] theorem State.tick_fault (s : State) (n : Nat) : (s.tick n).fault = s.fault := rfl
@[simp] theorem State.tick_diag (s : State) (n : Nat) : (s.tick n).diag = s.diag := rfl
@[simp] theorem State.tick_frameAcc (s : State) (n : Nat) : (s.tick n).frameAcc = s.frameAcc + n := rfl
@[simp] theorem State.tick_callback (s : State) (n : Nat) : (s.tick n).callback = s.callback := rfl
@[simp] theorem State.tick_displayBuffer (s : State) (n : Nat) : (s.tick n).displayBuffer = s.displayBuffer := rfl
@[simp] theorem State.tick_runState (s : State) (n : Nat) : (s.tick n).runState = s.runState := rfl
@[simp] theorem State.tick_intLine (s : State) (n : Nat) : (s.tick n).intLine = s.intLine := rfl
@[simp] theorem State.tick_busByte (s : State) (n : Nat) : (s.tick n).busByte = s.busByte := rfl
@[simp] theorem State.tick_ioAnswers (s : State) (n : Nat) : (s.tick n).ioAnswers = s.ioAnswers := rfl
@[simp] theorem State.tick_callbackOff (s : State) (n : Nat) : (s.tick n).callbackOff = s.callbackOff := rfl
@[simp] theorem State.tick_asyncOff (s : State) (n : Nat) : (s.tick n).asyncOff = s.asyncOff := rfl
@[simp] theorem State.tick_events (s : State) (n : Nat) : (s.tick n).events = s.events ++ [.tick n] := rfl
@[simp] theorem State.tick_draws (s : State) (n : Nat) : (s.tick n).draws = s.draws := rfl

/-! ### `State.endShadow` -/

@[simp] theorem State.endShadow_regs (s : State) : (s.endShadow).regs = s.regs := rfl
@[simp] theorem State.endShadow_shadow (s : State) : (s.endShadow).shadow = s.shadow := rfl
@[simp] theorem State.endShadow_ix (s : State) : (s.endShadow).ix = s.ix := rfl
@[simp] theorem State.endShadow_iy (s : State) : (s.endShadow).iy = s.iy := rfl
@[simp] theorem State.endShadow_sp (s : State) : (s.endShadow).sp = s.sp := rfl
@[simp] theorem State.endShadow_pc (s : State) : (s.endShadow).pc = s.pc := rfl
@[simp] theorem State.endShadow_i (s : State) : (s.endShadow).i = s.i := rfl
@[simp] theorem State.endShadow_r (s : State) : (s.endShadow).r = s.r := rfl
@[simp] theorem State.endShadow_iff1 (s : State) : (s.endShadow).iff1 = s.iff1 := rfl
@[simp] theorem State.endShadow_iff2 (s : State) : (s.endShadow).iff2 = s.iff2 := rfl
@[simp] theorem State.endShadow_im (s : State) : (s.endShadow).im = s.im := rfl
@[simp] theorem State.endShadow_halted (s : State) : (s.endShadow).halted = s.halted := rfl
@[simp] theorem State.endShadow_eiShadow (s : State) : (s.endShadow).eiShadow = false := rfl
@[simp] theorem State.endShadow_nmiPending (s : State) : (s.endShadow).nmiPending = s.nmiPending := rfl
@[simp] theorem State.endShadow_cycles (s : State) : (s.endShadow).cycles = s.cycles := rfl
@[simp] theorem State.endShadow_marks (s : State) : (s.endShadow).marks = s.marks := rfl
@[simp] theorem State.endShadow_romBanks (s : State) : (s.endShadow).romBanks = s.romBanks := rfl
@[simp] theorem State.endShadow_slots (s : State) : (s.endShadow).slots = s.slots := rfl
@[simp] theorem State.endShadow_ram (s : State) : (s.endShadow).ram = s.ram := rfl
@[simp] theorem State.endShadow_cart (s : State) : (s.endShadow).cart = s.cart := rfl
@[simp] theorem State.endShadow_powered (s : State) : (s.endShadow).powered = s.powered := rfl
@[simp] theorem State.endShadow_fault (s : State) : (s.endShadow).fault = s.fault := rfl
@[simp] theorem State.endShadow_diag (s : State) : (s.endShadow).diag = s.diag := rfl
@[simp] theorem State.endShadow_frameAcc (s : State) : (s.endShadow).frameAcc = s.frameAcc := rfl
@[simp] theorem State.endShadow_callback (s : State) : (s.endShadow).callback = s.callback := rfl
@[simp] theorem State.endShadow_displayBuffer (s : State) : (s.endShadow).displayBuffer = s.displayBuffer := rfl
@[simp] theorem State.endShadow_runState (s : State) : (s.endShadow).runState = s.runState := rfl
@[simp] theorem State.endShadow_intLine (s : State) : (s.endShadow).intLine = s.intLine := rfl
@[simp] theorem State.endShadow_busByte (s : State) : (s.endShadow).busByte = s.busByte := rfl
@[simp] theorem State.endShadow_ioAnswers (s : State) : (s.endShadow).ioAnswers = s.ioAnswers := rfl
@[simp] theorem State.endShadow_callbackOff (s : State) : (s.endShadow).callbackOff = s.callbackOff := rfl
@[simp] theorem State.endShadow_asyncOff (s : State) : (s.endShadow).asyncOff = s.asyncOff := rfl
@[simp] theorem State.endShadow_events (s : State) : (s.endShadow).events = s.events := rfl
@[simp] theorem State.endShadow_draws (s : State) : (s.endShadow).draws = s.draws := rfl

/-! ### `State.enterRun` -/

@[simp] theorem State.enterRun_regs (s : State) : (s.enterRun).regs = s.regs := rfl
@[simp] theorem State.enterRun_shadow (s : State) : (s.enterRun).shadow = s.shadow := rfl
@[simp] theorem State.enterRun_ix (s : State) : (s.enterRun).ix = s.ix := rfl
@[simp] theorem State.enterRun_iy (s : State) : (s.enterRun).iy = s.iy := rfl
@[simp] theorem State.enterRun_sp (s : State) : (s.enterRun).sp = s.sp := rfl
@[simp] theorem State.enterRun_pc (s : State) : (s.enterRun).pc = s.pc := rfl
@[simp] theorem State.enterRun_i (s : State) : (s.enterRun).i = s.i := rfl
@[simp] theorem State.enterRun_r (s : State) : (s.enterRun).r = s.r := rfl
@[simp] theorem State.enterRun_iff1 (s : State) : (s.enterRun).iff1 = s.iff1 := rfl
@[simp] theorem State.enterRun_iff2 (s : State) : (s.enterRun).iff2 = s.iff2 := rfl
@[simp] theorem State.enterRun_im (s : State) : (s.enterRun).im = s.im := rfl
@[simp] theorem State.enterRun_halted (s : State) : (s.enterRun).halted = s.halted := rfl
@[simp] theorem State.enterRun_eiShadow (s : State) : (s.enterRun).eiShadow = s.eiShadow := rfl
@[simp] theorem State.enterRun_nmiPending (s : State) : (s.enterRun).nmiPending = s.nmiPending := rfl
@[simp] theorem State.enterRun_cycles (s : State) : (s.enterRun).cycles = s.cycles := rfl
@[simp] theorem State.enterRun_marks (s : State) : (s.enterRun).marks = s.marks := rfl
@[simp] theorem State.enterRun_romBanks (s : State) : (s.enterRun).romBanks = s.romBanks := rfl
@[simp] theorem State.enterRun_slots (s : State) : (s.enterRun).slots = s.slots := rfl
@[simp] theorem State.enterRun_ram (s : State) : (s.enterRun).ram = s.ram := rfl
@[simp] theorem State.enterRun_cart (s : State) : (s.enterRun).cart = s.cart := rfl
@[simp] theorem State.enterRun_powered (s : State) : (s.enterRun).powered = s.powered := rfl
@[simp] theorem State.enterRun_fault (s : State) : (s.enterRun).fault = s.fault := rfl
@[simp] theorem State.enterRun_diag (s : State) : (s.enterRun).diag = s.diag := rfl
@[simp] theorem State.enterRun_frameAcc (s : State) : (s.enterRun).frameAcc = s.frameAcc := rfl
@[simp] theorem State.enterRun_callback (s : State) : (s.enterRun).callback = s.callback := rfl
@[simp] theorem State.enterRun_displayBuffer (s : State) : (s.enterRun).displayBuffer = s.displayBuffer := rfl
@[simp] theorem State.enterRun_runState (s : State) : (s.enterRun).runState = .running := rfl
@[simp] theorem State.enterRun_intLine (s : State) : (s.enterRun).intLine = s.intLine := rfl
@[simp] theorem State.enterRun_busByte (s : State) : (s.enterRun).busByte = s.busByte := rfl
@[simp] theorem State.enterRun_ioAnswers (s : State) : (s.enterRun).ioAnswers = s.ioAnswers := rfl
@[simp] theorem State.enterRun_callbackOff (s : State) : (s.enterRun).callbackOff = s.callbackOff := rfl
@[simp] theorem State.enterRun_asyncOff (s : State) : (s.enterRun).asyncOff = s.asyncOff := rfl
@[simp] theorem State.enterRun_events (s : State) : (s.enterRun).events = s.events := rfl
@[simp] theorem State.enterRun_draws (s : State) : (s.enterRun).draws = s.draws := rfl

/-! ### `State.moveMarks` -/

@[simp] theorem State.moveMarks_regs (s : State) : (s.moveMarks).regs = s.regs := rfl
@[simp] theorem State.moveMarks_shadow (s : State) : (s.moveMarks).shadow = s.shadow := rfl
@[simp] theorem State.moveMarks_ix (s : State) : (s.moveMarks).ix = s.ix := rfl
@[simp] theorem State.moveMarks_iy (s : State) : (s.moveMarks).iy = s.iy := rfl
@[simp] theorem State.moveMarks_sp (s : State) : (s.moveMarks).sp = s.sp := rfl
@[simp] theorem State.moveMarks_pc (s : State) : (s.moveMarks).pc = s.pc := rfl
@[simp] theorem State.moveMarks_i (s : State) : (s.moveMarks).i = s.i := rfl
@[simp] theorem State.moveMarks_r (s : State) : (s.moveMarks).r = s.r := rfl
@[simp] theorem State.moveMarks_iff1 (s : State) : (s.moveMarks).iff1 = s.iff1 := rfl
@[simp] theorem State.moveMarks_iff2 (s : State) : (s.moveMarks).iff2 = s.iff2 := rfl
@[simp] theorem State.moveMarks_im (s : State) : (s.moveMarks).im = s.im := rfl
@[simp] theorem State.moveMarks_halted (s : State) : (s.moveMarks).halted = s.halted := rfl
@[simp] theorem State.moveMarks_eiShadow (s : State) : (s.moveMarks).eiShadow = s.eiShadow := rfl
@[simp] theorem State.moveMarks_nmiPending (s : State) : (s.moveMarks).nmiPending = s.nmiPending := rfl
@[simp] theorem State.moveMarks_cycles (s : State) : (s.moveMarks).cycles = s.cycles := rfl
@[simp] theorem State.moveMarks_marks (s : State) : (s.moveMarks).marks = s.stepMarks := rfl
@[simp] theorem State.moveMarks_romBanks (s : State) : (s.moveMarks).romBanks = s.romBanks := rfl
@[simp] theorem State.moveMarks_slots (s : State) : (s.moveMarks).slots = s.slots := rfl
@[simp] theorem State.moveMarks_ram (s : State) : (s.moveMarks).ram = s.ram := rfl
@[simp] theorem State.moveMarks_cart (s : State) : (s.moveMarks).cart = s.cart := rfl
@[simp] theorem State.moveMarks_powered (s : State) : (s.moveMarks).powered = s.powered := rfl
@[simp] theorem State.moveMarks_fault (s : State) : (s.moveMarks).fault = s.fault := rfl
@[simp] theorem State.moveMarks_diag (s : State) : (s.moveMarks).diag = s.diag := rfl
@[simp] theorem State.moveMarks_frameAcc (s : State) : (s.moveMarks).frameAcc = s.frameAcc := rfl
@[simp] theorem State.moveMarks_callback (s : State) : (s.moveMarks).callback = s.callback := rfl
@[simp] theorem State.moveMarks_displayBuffer (s : State) : (s.moveMarks).displayBuffer = s.displayBuffer := rfl
@[simp] theorem State.moveMarks_runState (s : State) : (s.moveMarks).runState = s.runState := rfl
@[simp] theorem State.moveMarks_intLine (s : State) : (s.moveMarks).intLine = s.intLine := rfl
@[simp] theorem State.moveMarks_busByte (s : State) : (s.moveMarks).busByte = s.busByte := rfl
@[simp] theorem State.moveMarks_ioAnswers (s : State) : (s.moveMarks).ioAnswers = s.ioAnswers := rfl
@[simp] theorem State.moveMarks_callbackOff (s : State) : (s.moveMarks).callbackOff = s.callbackOff := rfl
@[simp] theorem State.moveMarks_asyncOff (s : State) : (s.moveMarks).asyncOff = s.asyncOff := rfl
@[simp] theorem State.moveMarks_events (s : State) : (s.moveMarks).events = s.events := rfl
@[simp] theorem State.moveMarks_draws (s : State) : (s.moveMarks).draws = s.draws := rfl

/-! ### `State.fetched` -/

@[simp] theorem State.fetched_regs (s : State) (d : Decoded) : (s.fetched d).regs = s.regs := rfl
@[simp] theorem State.fetched_shadow (s : State) (d : Decoded) : (s.fetched d).shadow = s.shadow := rfl
@[simp] theorem State.fetched_ix (s : State) (d : Decoded) : (s.fetched d).ix = s.ix := rfl
@[simp] theorem State.fetched_iy (s : State) (d : Decoded) : (s.fetched d).iy = s.iy := rfl
@[simp] theorem State.fetched_sp (s : State) (d : Decoded) : (s.fetched d).sp = s.sp := rfl
@[simp] theorem State.fetched_pc (s : State) (d : Decoded) : (s.fetched d).pc = s.pc + BitVec.ofNat 16 d.len := rfl
@[simp] theorem State.fetched_i (s : State) (d : Decoded) : (s.fetched d).i = s.i := rfl
@[simp] theorem State.fetched_r (s : State) (d : Decoded) : (s.fetched d).r = refreshBy d.m1 s.r := rfl
@[simp] theorem State.fetched_iff1 (s : State) (d : Decoded) : (s.fetched d).iff1 = s.iff1 := rfl
@[simp] theorem State.fetched_iff2 (s : State) (d : Decoded) : (s.fetched d).iff2 = s.iff2 := rfl
@[simp] theorem State.fetched_im (s : State) (d : Decoded) : (s.fetched d).im = s.im := rfl
@[simp] theorem State.fetched_halted (s : State) (d : Decoded) : (s.fetched d).halted = s.halted := rfl
@[simp] theorem State.fetched_eiShadow (s : State) (d : Decoded) : (s.fetched d).eiShadow = s.eiShadow := rfl
@[simp] theorem State.fetched_nmiPending (s : State) (d : Decoded) : (s.fetched d).nmiPending = s.nmiPending := rfl
@[simp] theorem State.fetched_cycles (s : State) (d : Decoded) : (s.fetched d).cycles = s.cycles := rfl
@[simp] theorem State.fetched_marks (s : State) (d : Decoded) : (s.fetched d).marks = s.marks := rfl
@[simp] theorem State.fetched_romBanks (s : State) (d : Decoded) : (s.fetched d).romBanks = s.romBanks := rfl
@[simp] theorem State.fetched_slots (s : State) (d : Decoded) : (s.fetched d).slots = s.slots := rfl
@[simp] theorem State.fetched_ram (s : State) (d : Decoded) : (s.fetched d).ram = s.ram := rfl
@[simp] theorem State.fetched_cart (s : State) (d : Decoded) : (s.fetched d).cart = s.cart := rfl
@[simp] theorem State.fetched_powered (s : State) (d : Decoded) : (s.fetched d).powered = s.powered := rfl
@[simp] theorem State.fetched_fault (s : State) (d : Decoded) : (s.fetched d).fault = s.fault := rfl
@[simp] theorem State.fetched_diag (s : State) (d : Decoded) : (s.fetched d).diag = s.diag := rfl
@[simp] theorem State.fetched_frameAcc (s : State) (d : Decoded) : (s.fetched d).frameAcc = s.frameAcc := rfl
@[simp] theorem State.fetched_callback (s : State) (d : Decoded) : (s.fetched d).callback = s.callback := rfl
@[simp] theorem State.fetched_displayBuffer (s : State) (d : Decoded) :
    (s.fetched d).displayBuffer = s.displayBuffer := rfl
@[simp] theorem State.fetched_runState (s : State) (d : Decoded) : (s.fetched d).runState = s.runState := rfl
@[simp] theorem State.fetched_intLine (s : State) (d : Decoded) : (s.fetched d).intLine = s.intLine := rfl
@[simp] theorem State.fetched_busByte (s : State) (d : Decoded) : (s.fetched d).busByte = s.busByte := rfl
@[simp] theorem State.fetched_ioAnswers (s : State) (d : Decoded) : (s.fetched d).ioAnswers = s.ioAnswers := rfl
@[simp] theorem State.fetched_callbackOff (s : State) (d : Decoded) : (s.fetched d).callbackOff = s.callbackOff := rfl
@[simp] theorem State.fetched_asyncOff (s : State) (d : Decoded) : (s.fetched d).asyncOff = s.asyncOff := rfl
@[simp] theorem State.fetched_events (s : State) (d : Decoded) : (s.fetched d).events = s.events := rfl
@[simp] theorem State.fetched_draws (s : State) (d : Decoded) : (s.fetched d).draws = s.draws := rfl

/-! ### `State.powerOff` -/

@[simp] theorem State.powerOff_regs (s : State) : (s.powerOff).regs = s.regs := rfl
@[simp] theorem State.powerOff_shadow (s : State) : (s.powerOff).shadow = s.shadow := rfl
@[simp] theorem State.powerOff_ix (s : State) : (s.powerOff).ix = s.ix := rfl
@[simp] theorem State.powerOff_iy (s : State) : (s.powerOff).iy = s.iy := rfl
@[simp] theorem State.powerOff_sp (s : State) : (s.powerOff).sp = s.sp := rfl
@[simp] theorem State.powerOff_pc (s : State) : (s.powerOff).pc = s.pc := rfl
@[simp] theorem State.powerOff_i (s : State) : (s.powerOff).i = s.i := rfl
@[simp] theorem State.powerOff_r (s : State) : (s.powerOff).r = s.r := rfl
@[simp] theorem State.powerOff_iff1 (s : State) : (s.powerOff).iff1 = s.iff1 := rfl
@[simp] theorem State.powerOff_iff2 (s : State) : (s.powerOff).iff2 = s.iff2 := rfl
@[simp] theorem State.powerOff_im (s : State) : (s.powerOff).im = s.im := rfl
@[simp] theorem State.powerOff_halted (s : State) : (s.powerOff).halted = s.halted := rfl
@[simp] theorem State.powerOff_eiShadow (s : State) : (s.powerOff).eiShadow = s.eiShadow := rfl
@[simp] theorem State.powerOff_nmiPending (s : State) : (s.powerOff).nmiPending = s.nmiPending := rfl
@[simp] theorem State.powerOff_cycles (s : State) : (s.powerOff).cycles = s.cycles := rfl
@[simp] theorem State.powerOff_marks (s : State) : (s.powerOff).marks = s.marks := rfl
@[simp] theorem State.powerOff_romBanks (s : State) : (s.powerOff).romBanks = s.romBanks := rfl
@[simp] theorem State.powerOff_slots (s : State) : (s.powerOff).slots = s.slots := rfl
@[simp] theorem State.powerOff_ram (s : State) : (s.powerOff).ram = s.ram := rfl
@[simp] theorem State.powerOff_cart (s : State) : (s.powerOff).cart = s.cart := rfl
@[simp] theorem State.powerOff_powered (s : State) : (s.powerOff).powered = false := rfl
@[simp] theorem State.powerOff_fault (s : State) : (s.powerOff).fault = s.fault := rfl
@[simp] theorem State.powerOff_diag (s : State) : (s.powerOff).diag = s.diag := rfl
@[simp] theorem State.powerOff_frameAcc (s : State) : (s.powerOff).frameAcc = s.frameAcc := rfl
@[simp] theorem State.powerOff_callback (s : State) : (s.powerOff).callback = s.callback := rfl
@[simp] theorem State.powerOff_displayBuffer (s : State) : (s.powerOff).displayBuffer = s.displayBuffer := rfl
@[simp] theorem State.powerOff_runState (s : State) : (s.powerOff).runState = s.runState := rfl
@[simp] theorem State.powerOff_intLine (s : State) : (s.powerOff).intLine = s.intLine := rfl
@[simp] theorem State.powerOff_busByte (s : State) : (s.powerOff).busByte = s.busByte := rfl
@[simp] theorem State.powerOff_ioAnswers (s : State) : (s.powerOff).ioAnswers = s.ioAnswers := rfl
@[simp] theorem State.powerOff_callbackOff (s : State) : (s.powerOff).callbackOff = s.callbackOff := rfl
@[simp] theorem State.powerOff_asyncOff (s : State) : (s.powerOff).asyncOff = s.asyncOff := rfl
@[simp] theorem State.powerOff_events (s : State) : (s.powerOff).events = s.events := rfl
@[simp] theorem State.powerOff_draws (s : State) : (s.powerOff).draws = s.draws := rfl

/-! ### `State.withFrameView` -/

@[simp] theorem State.withFrameView_regs (s : State) (v : FrameView) : (s.withFrameView v).regs = s.regs := rfl
@[simp] theorem State.withFrameView_shadow (s : State) (v : FrameView) : (s.withFrameView v).shadow = s.shadow := rfl
@[simp] theorem State.withFrameView_ix (s : State) (v : FrameView) : (s.withFrameView v).ix = s.ix := rfl
@[simp] theorem State.withFrameView_iy (s : State) (v : FrameView) : (s.withFrameView v).iy = s.iy := rfl
@[simp] theorem State.withFrameView_sp (s : State) (v : FrameView) : (s.withFrameView v).sp = s.sp := rfl
@[simp] theorem State.withFrameView_pc (s : State) (v : FrameView) : (s.withFrameView v).pc = s.pc := rfl
@[simp] theorem State.withFrameView_i (s : State) (v : FrameView) : (s.withFrameView v).i = s.i := rfl
@[simp] theorem State.withFrameView_r (s : State) (v : FrameView) : (s.withFrameView v).r = s.r := rfl
@[simp] theorem State.withFrameView_iff1 (s : State) (v : FrameView) : (s.withFrameView v).iff1 = s.iff1 := rfl
@[simp] theorem State.withFrameView_iff2 (s : State) (v : FrameView) : (s.withFrameView v).iff2 = s.iff2 := rfl
@[simp] theorem State.withFrameView_im (s : State) (v : FrameView) : (s.withFrameView v).im = s.im := rfl
@[simp] theorem State.withFrameView_halted (s : State) (v : FrameView) : (s.withFrameView v).halted = s.halted := rfl
@[simp] theorem State.withFrameView_eiShadow (s : State) (v : FrameView) :
    (s.withFrameView v).eiShadow = s.eiShadow := rfl
@[simp] theorem State.withFrameView_nmiPending (s : State) (v : FrameView) :
    (s.withFrameView v).nmiPending = s.nmiPending := rfl
@[simp] theorem State.withFrameView_cycles (s : State) (v : FrameView) : (s.withFrameView v).cycles = s.cycles := rfl
@[simp] theorem State.withFrameView_marks (s : State) (v : FrameView) : (s.withFrameView v).marks = s.marks := rfl
@[simp] theorem State.withFrameView_romBanks (s : State) (v : FrameView) :
    (s.withFrameView v).romBanks = s.romBanks := rfl
@[simp] theorem State.withFrameView_slots (s : State) (v : FrameView) : (s.withFrameView v).slots = s.slots := rfl
@[simp] theorem State.withFrameView_ram (s : State) (v : FrameView) : (s.withFrameView v).ram = s.ram := rfl
@[simp] theorem State.withFrameView_cart (s : State) (v : FrameView) : (s.withFrameView v).cart = s.cart := rfl
@[simp] theorem State.withFrameView_powered (s : State) (v : FrameView) : (s.withFrameView v).powered = v.powered := rfl
@[simp] theorem State.withFrameView_fault (s : State) (v : FrameView) : (s.withFrameView v).fault = s.fault := rfl
@[simp] theorem State.withFrameView_diag (s : State) (v : FrameView) : (s.withFrameView v).diag = s.diag := rfl
@[simp] theorem State.withFrameView_frameAcc (s : State) (v : FrameView) : (s.withFrameView v).frameAcc = v.acc := rfl
@[simp] theorem State.withFrameView_callback (s : State) (v : FrameView) :
    (s.withFrameView v).callback = s.callback := rfl
@[simp] theorem State.withFrameView_displayBuffer (s : State) (v : FrameView) :
    (s.withFrameView v).displayBuffer = s.displayBuffer := rfl
@[simp] theorem State.withFrameView_runState (s : State) (v : FrameView) :
    (s.withFrameView v).runState = if v.stopped then .idle else s.runState := rfl
@[simp] theorem State.withFrameView_intLine (s : State) (v : FrameView) : (s.withFrameView v).intLine = s.intLine := rfl
@[simp] theorem State.withFrameView_busByte (s : State) (v : FrameView) : (s.withFrameView v).busByte = s.busByte := rfl
@[simp] theorem State.withFrameView_ioAnswers (s : State) (v : FrameView) :
    (s.withFrameView v).ioAnswers = s.ioAnswers := rfl
@[simp] theorem State.withFrameView_callbackOff (s : State) (v : FrameView) :
    (s.withFrameView v).callbackOff = v.callbackOff := rfl
@[simp] theorem State.withFrameView_asyncOff (s : State) (v : FrameView) :
    (s.withFrameView v).asyncOff = v.asyncOff := rfl
@[simp] theorem State.withFrameView_events (s : State) (v : FrameView) : (s.withFrameView v).events = v.events := rfl
@[simp] theorem State.withFrameView_draws (s : State) (v : FrameView) : (s.withFrameView v).draws = v.draws := rfl

end Sys2Proof.Machine
end

