-- ==== Sys2Proof/Laws/Frames.lean ====
section
/-! SUPPORT. The frame boundaries of the Run loop: what one boundary does, and the three ways the loop over them goes on. -/

namespace Sys2Proof.Machine

/-- All that one boundary does. -/
theorem boundary_all (frameCycles : Nat) (callback : Option Nat) (v : FrameView) :
    let w := v.boundary frameCycles callback
    w.acc = v.acc - frameCycles ∧ w.stopped = v.stopped ∧ w.asyncOff = v.asyncOff.tail ∧
      w.powered = (v.powered && !(callback.isSome && v.callsPowerOff) && !v.asyncOff.head?.getD false) ∧
      (callback = none → w.events = v.events ∧ w.callbackOff = v.callbackOff ∧ w.draws = v.draws) ∧
      ∀ handle, callback = some handle → w.events = v.events ++ [.frame handle] ∧ w.callbackOff = v.callbackOff.tail := by
  cases callback <;> simp [FrameView.boundary, FrameView.callBack, FrameView.landPowerOff, FrameView.callsPowerOff]

/-- No boundary is reached. -/
theorem frameLoop_below (frameCycles : Nat) (callback : Option Nat) (fuel : Nat) (v : FrameView)
    (h : v.acc < frameCycles) : frameLoop frameCycles callback fuel v = v := by
  cases fuel <;> simp [frameLoop, h]

/-- A boundary is reached and the power flag stays set. -/
theorem frameLoop_on (frameCycles : Nat) (callback : Option Nat) (fuel : Nat) (v : FrameView)
    (h : frameCycles ≤ v.acc) (hp : (v.boundary frameCycles callback).powered = true) :
    frameLoop frameCycles callback (fuel + 1) v =
      frameLoop frameCycles callback fuel (v.boundary frameCycles callback) := by
  conv => lhs; unfold frameLoop
  rw [if_neg (by omega)]
  simp [hp]

/-- A boundary is reached and the power flag is found clear. -/
theorem frameLoop_off (frameCycles : Nat) (callback : Option Nat) (fuel : Nat) (v : FrameView)
    (h : frameCycles ≤ v.acc) (hp : (v.boundary frameCycles callback).powered = false) :
    frameLoop frameCycles callback (fuel + 1) v = { v.boundary frameCycles callback with stopped := true } := by
  unfold frameLoop
  rw [if_neg (by omega)]
  simp [hp]

end Sys2Proof.Machine
end

