-- ==== Sys2Proof/Laws/Marks.lean ====
section
/-! SUPPORT. What each operation on the marks of R601 does, said once, and that all of them give marks in canonical form. -/

namespace Sys2Proof

open Sys2Proof.Machine

/-- Every location can carry a mark. -/
theorem mem_allLocs (l : Loc) : l ∈ allLocs := by
  cases l with
  | reg r => cases r <;> decide
  | flag k => cases k <;> decide
  | ix => decide
  | iy => decide
  | sp => decide

@[simp] theorem Marks.mem_of_unwritten (p q : Loc → Bool) (l : Loc) : l ∈ (Marks.of p q).unwritten ↔ p l = true := by
  simp [Marks.of, mem_allLocs]

@[simp] theorem Marks.mem_of_shadow (p q : Loc → Bool) (l : Loc) :
    l ∈ (Marks.of p q).shadow ↔ l ∈ shadowLocs ∧ q l = true := by
  simp [Marks.of]

/-- Marks given by what they hold are canonical. -/
theorem Marks.of_wf (p q : Loc → Bool) : (Marks.of p q).wf = true := by
  simp only [Marks.wf, decide_eq_true_eq, Marks.mem_of_unwritten, Marks.mem_of_shadow]
  simp only [Marks.of, Marks.mk.injEq]
  refine ⟨List.filter_congr fun l _ => by simp, List.filter_congr fun l hl => by simp [hl]⟩

theorem Marks.reset_wf : Marks.reset.wf = true := by decide

/-- After a write nothing of `locs` carries a mark, and every other mark is as before. -/
theorem Marks.mem_written (m : Marks) (locs : List Loc) (l : Loc) :
    l ∈ (m.written locs).unwritten ↔ l ∈ m.unwritten ∧ l ∉ locs := by simp [Marks.written]

/-- After an exchange the marks of `locs` are the shadow's, and every other mark is as before. -/
theorem Marks.mem_exchanged (m : Marks) (locs : List Loc) (l : Loc) :
    l ∈ (m.exchanged locs).unwritten ↔ if l ∈ locs then l ∈ m.shadow else l ∈ m.unwritten := by
  by_cases h : l ∈ locs <;> simp [Marks.exchanged, h]

/-- A write leaves the shadow's marks. -/
theorem Marks.mem_written_shadow (m : Marks) (locs : List Loc) (l : Loc) (h : l ∈ shadowLocs) :
    l ∈ (m.written locs).shadow ↔ l ∈ m.shadow := by simp [Marks.written, h]

/-- After an exchange the shadow's marks of `locs` are the others', and every other one is as before. -/
theorem Marks.mem_exchanged_shadow (m : Marks) (locs : List Loc) (l : Loc) (h : l ∈ shadowLocs) :
    l ∈ (m.exchanged locs).shadow ↔ if l ∈ locs then l ∈ m.unwritten else l ∈ m.shadow := by
  by_cases hl : l ∈ locs <;> simp [Marks.exchanged, h, hl]

/-- After EX DE,HL each location has the mark of its partner, and the shadow's marks are as before. -/
theorem Marks.mem_swappedDeHl (m : Marks) (l : Loc) :
    (l ∈ m.swappedDeHl.unwritten ↔ l.swapDeHl ∈ m.unwritten) ∧
      (l ∈ shadowLocs → (l ∈ m.swappedDeHl.shadow ↔ l ∈ m.shadow)) :=
  ⟨by simp [Marks.swappedDeHl], fun h => by simp [Marks.swappedDeHl, h]⟩

/-- An instruction leaves the marks in canonical form, whatever their form before. -/
theorem Marks.after_wf (m : Marks) (i : Instr) (s : State) : (m.after i s).wf = true := by
  cases i <;> exact Marks.of_wf ..

/-- A CPU step keeps the marks in canonical form. -/
theorem stepMarks_wf (s : State) (h : s.marks.wf = true) : s.stepMarks.wf = true := by
  unfold State.stepMarks
  split
  · exact Marks.of_wf ..
  · split
    · exact h
    · split
      · exact Marks.after_wf ..
      · exact h

end Sys2Proof
end

