-- ==== Sys2Proof/Laws/Memory.lean ====
section
/-! SUPPORT. The memory's laws: reading after a write, and the canonical form, which every memory operation keeps. -/

namespace Sys2Proof.Machine

/-! ## Read after write -/

@[simp] theorem Memory.read_nil (a : Nat) : Memory.read [] a = Memory.blank := rfl

theorem Memory.read_cons (k : Nat) (w : Byte) (m : Memory) (a : Nat) :
    Memory.read ((k, w) :: m) a = if k = a then w else m.read a := rfl

theorem Memory.read_put (a : Nat) (v : Byte) (m : Memory) (b : Nat) (h : m.read a = Memory.blank) :
    (Memory.put a v m).read b = if a = b then v else m.read b := by
  unfold Memory.put
  split
  · next hv => split
               · next hab => subst hab; rw [h, hv]
               · rfl
  · rfl

theorem Memory.read_without (m : Memory) (a b : Nat) :
    (m.without a).read b = if a = b then Memory.blank else m.read b := by
  induction m with
  | nil => simp [Memory.without]
  | cons c m ih =>
    obtain ⟨k, w⟩ := c
    unfold Memory.without at ih ⊢
    by_cases hk : k = a
    · simp only [List.filter_cons, hk, ne_eq, not_true_eq_false, decide_false, Bool.false_eq_true, if_false, ih,
        Memory.read_cons]
      split <;> rfl
    · simp only [List.filter_cons, hk, ne_eq, not_false_eq_true, decide_true, if_true, ih, Memory.read_cons]
      by_cases hb : k = b
      · have : a ≠ b := fun h => hk (hb.trans h.symm)
        simp [hb, this]
      · simp [hb]

theorem Memory.read_insert (m : Memory) (a : Nat) (v : Byte) (b : Nat) (h : m.read a = Memory.blank) (hm : ∀ c ∈ m, c.1 ≠ a) :
    (m.insert a v).read b = if a = b then v else m.read b := by
  induction m with
  | nil => exact Memory.read_put a v [] b rfl
  | cons c m ih =>
    obtain ⟨k, w⟩ := c
    unfold Memory.insert
    have hk : k ≠ a := hm (k, w) (by simp)
    split
    · exact Memory.read_put a v _ b h
    · rw [Memory.read_cons, if_neg hk] at h
      rw [Memory.read_cons, Memory.read_cons, ih h fun c hc => hm c (by simp [hc])]
      by_cases hb : k = b
      · have : a ≠ b := fun h => hk (hb.trans h.symm)
        simp [hb, this]
      · simp [hb]

/-- Reading after a write: the value written at its address, everywhere else what was there. -/
theorem Memory.read_write (m : Memory) (a : Nat) (v : Byte) (b : Nat) :
    (m.write a v).read b = if a = b then v else m.read b := by
  unfold Memory.write
  rw [Memory.read_insert _ _ _ _ (by simp [Memory.read_without]) (by simp [Memory.without]), Memory.read_without]
  split <;> simp_all

/-! ## The canonical form -/

theorem Memory.wfFrom_mono {low low' : Nat} {m : Memory} (h : low' ≤ low) (hm : Memory.wfFrom low m = true) :
    Memory.wfFrom low' m = true := by
  cases m with
  | nil => rfl
  | cons c m => simp only [Memory.wfFrom, Bool.and_eq_true, decide_eq_true_eq] at hm ⊢; exact ⟨⟨by omega, hm.1.2⟩, hm.2⟩

theorem Memory.wfFrom_without {low : Nat} {m : Memory} (a : Nat) (hm : Memory.wfFrom low m = true) :
    Memory.wfFrom low (m.without a) = true := by
  induction m generalizing low with
  | nil => rfl
  | cons c m ih =>
    simp only [Memory.wfFrom, Bool.and_eq_true, decide_eq_true_eq] at hm
    unfold Memory.without at ih ⊢
    rw [List.filter_cons]
    split
    · simp only [Memory.wfFrom, Bool.and_eq_true, decide_eq_true_eq]; exact ⟨hm.1, ih hm.2⟩
    · exact Memory.wfFrom_mono (by omega) (ih hm.2)

theorem Memory.wfFrom_put {low a : Nat} {v : Byte} {m : Memory} (hl : low ≤ a) (hm : Memory.wfFrom (a + 1) m = true) :
    Memory.wfFrom low (Memory.put a v m) = true := by
  unfold Memory.put
  split
  · exact Memory.wfFrom_mono (by omega) hm
  · simp only [Memory.wfFrom, Bool.and_eq_true, decide_eq_true_eq]; exact ⟨⟨hl, ‹_›⟩, hm⟩

theorem Memory.wfFrom_insert {low a : Nat} {v : Byte} {m : Memory} (hl : low ≤ a) (hm : Memory.wfFrom low m = true)
    (ha : ∀ c ∈ m, c.1 ≠ a) : Memory.wfFrom low (m.insert a v) = true := by
  induction m generalizing low with
  | nil => exact Memory.wfFrom_put hl rfl
  | cons c m ih =>
    have hc : c.1 ≠ a := ha c (by simp)
    have hw := hm
    simp only [Memory.wfFrom, Bool.and_eq_true, decide_eq_true_eq] at hm
    unfold Memory.insert
    split
    · refine Memory.wfFrom_put hl ?_
      simp only [Memory.wfFrom, Bool.and_eq_true, decide_eq_true_eq]
      exact ⟨⟨by omega, hm.1.2⟩, hm.2⟩
    · simp only [Memory.wfFrom, Bool.and_eq_true, decide_eq_true_eq]
      exact ⟨hm.1, ih (by omega) hm.2 fun d hd => ha d (by simp [hd])⟩

/-- A write keeps the canonical form. -/
theorem Memory.wf_write {m : Memory} (a : Nat) (v : Byte) (hm : m.wf = true) : (m.write a v).wf = true :=
  Memory.wfFrom_insert (Nat.zero_le a) (Memory.wfFrom_without a hm) (by simp [Memory.without])

theorem Memory.wf_foldl (cells : List Host.Cell) (m : Memory) (hm : m.wf = true) :
    (cells.foldl (fun m cell => m.write cell.1 cell.2) m).wf = true := by
  induction cells generalizing m with
  | nil => exact hm
  | cons c cells ih => exact ih _ (Memory.wf_write _ _ hm)

/-- A memory made of any list of cells is in canonical form. -/
theorem Memory.wf_ofCells (cells : List Host.Cell) : (Memory.ofCells cells).wf = true :=
  Memory.wf_foldl cells [] rfl

/-- The memory after reset is in canonical form. -/
theorem State.reset_ram_wf : State.reset.ram.wf = true := rfl

/-! ## The addresses a memory lists -/

theorem Memory.mem_insert {m : Memory} {a : Nat} {v : Byte} {c : Host.Cell} (h : c ∈ m.insert a v) :
    c = (a, v) ∨ c ∈ m := by
  induction m with
  | nil => unfold Memory.insert Memory.put at h; split at h <;> simp_all
  | cons d m ih =>
    unfold Memory.insert at h
    split at h
    · unfold Memory.put at h; split at h <;> simp_all
    · rcases List.mem_cons.1 h with h | h
      · simp [h]
      · rcases ih h with h | h <;> simp [h]

/-- A write lists no address but its own and those listed before. -/
theorem Memory.mem_write {m : Memory} {a : Nat} {v : Byte} {c : Host.Cell} (h : c ∈ m.write a v) :
    c = (a, v) ∨ c ∈ m := by
  rcases Memory.mem_insert h with h | h
  · exact .inl h
  · exact .inr (List.mem_of_mem_filter h)

theorem Memory.mem_foldl {cells : List Host.Cell} {m : Memory} {c : Host.Cell}
    (h : c ∈ cells.foldl (fun m cell => m.write cell.1 cell.2) m) : c ∈ cells ∨ c ∈ m := by
  induction cells generalizing m with
  | nil => exact .inr h
  | cons d cells ih =>
    rcases ih h with h | h
    · exact .inl (List.mem_cons_of_mem _ h)
    · rcases Memory.mem_write h with h | h
      · exact .inl (by simp [h])
      · exact .inr h

/-- A memory made of cells lists no others. -/
theorem Memory.mem_ofCells {cells : List Host.Cell} {c : Host.Cell} (h : c ∈ Memory.ofCells cells) : c ∈ cells := by
  rcases Memory.mem_foldl h with h | h
  · exact h
  · simp at h

theorem Memory.read_foldl (cells : List Host.Cell) (m : Memory) (a : Nat) :
    (cells.foldl (fun m cell => m.write cell.1 cell.2) m).read a =
      (((cells.filter fun c => c.1 = a).getLast?).map fun c => c.2).getD (m.read a) := by
  induction cells generalizing m with
  | nil => rfl
  | cons c cells ih =>
    show (cells.foldl _ (m.write c.1 c.2)).read a = _
    rw [ih, Memory.read_write, List.filter_cons]
    split
    · next h => simp only [h, decide_true, if_true, List.getLast?_cons]
                cases (cells.filter fun d => decide (d.1 = a)).getLast? <;> simp
    · next h => simp [h]

/-- Of the cells for one address the last counts; an address without one reads blank. -/
theorem Memory.read_ofCells (cells : List Host.Cell) (a : Nat) :
    (Memory.ofCells cells).read a =
      (((cells.filter fun c => c.1 = a).getLast?).map fun c => c.2).getD Memory.blank :=
  Memory.read_foldl cells [] a

end Sys2Proof.Machine
end

