-- ==== Sys2Proof/Laws/Stored.lean ====
section
/-! SUPPORT. For each shared operation that writes memory, one lemma that says all it does; and what reading an address
depends on. -/

namespace Sys2Proof

open Sys2Proof.Machine

/-! ## What a read depends on -/

theorem readByte_ram (s : State) {a : Word} (h : 0xC000 ≤ a.toNat) : s.readByte a = s.ram.read (a.toNat % ramSize) := by
  unfold State.readByte State.resolve
  rw [if_neg (by omega), if_neg (by omega), if_neg (by omega), if_neg (by omega)]
  rfl

/-- States that agree on RAM, on the windows, on the table and on the image read alike. -/
theorem readByte_congr {s t : State} (hr : t.ram = s.ram) (hs : t.slots = s.slots) (hb : t.romBanks = s.romBanks)
    (hc : t.cart = s.cart) (a : Word) : t.readByte a = s.readByte a := by
  have h1 : ∀ k, t.romEntry k = s.romEntry k := fun k => by simp [State.romEntry, hb]
  have h2 : t.resolve a = s.resolve a := by simp [State.resolve, h1, hs]
  have h3 : ∀ x, t.readTarget x = s.readTarget x := by
    intro x
    cases x with
    | ram i => simp [State.readTarget, hr]
    | rom b o => cases b <;> simp [State.readTarget, hc]
  simp [State.readByte, h2, h3]

/-- Below the RAM a read depends on RAM not at all, and on the windows by one selector. -/
theorem readByte_rom_congr {s t : State} (hb : t.romBanks = s.romBanks) (hc : t.cart = s.cart) {a : Word}
    (h : a.toNat < 0xC000) (h0 : 0x0400 ≤ a.toNat → a.toNat < 0x4000 → t.slots.slot0 = s.slots.slot0)
    (h1 : 0x4000 ≤ a.toNat → a.toNat < 0x8000 → t.slots.slot1 = s.slots.slot1)
    (h2 : 0x8000 ≤ a.toNat → t.slots.slot2 = s.slots.slot2) : t.readByte a = s.readByte a := by
  have hk : ∀ k, t.romEntry k = s.romEntry k := fun k => by simp [State.romEntry, hb]
  have hx : ∀ b o, t.readTarget (.rom b o) = s.readTarget (.rom b o) := by
    intro b o; cases b <;> simp [State.readTarget, hc]
  unfold State.readByte State.resolve
  split
  · rw [hk, hx]
  · split
    · rw [hk, hx, h0 (by omega) (by omega)]
    · split
      · rw [hk, hx, h1 (by omega) (by omega)]
      · rw [if_pos (by omega), if_pos (by omega), hk, hx, h2 (by omega)]

/-! ## One byte -/

theorem accepts_iff (a : Word) : accepts a = true ↔ 0xC000 ≤ a.toNat := by simp [accepts]

theorem lastWritten_single (w : Word) (v : Byte) (a : Word) :
    lastWritten [(w, v)] a = if w = a then some v else none := by
  unfold lastWritten; by_cases h : w = a <;> simp [h]

theorem control_slot0 (m : MapSlots) (a : Word) (v : Byte) :
    (m.control a v).slot0.toNat = if a = 0xFFFD then v.toNat % 64 else m.slot0.toNat := by
  simp only [MapSlots.control]; split <;> simp

theorem control_slot1 (m : MapSlots) (a : Word) (v : Byte) :
    (m.control a v).slot1.toNat = if a = 0xFFFE then v.toNat % 64 else m.slot1.toNat := by
  simp only [MapSlots.control]; split <;> simp

theorem control_slot2 (m : MapSlots) (a : Word) (v : Byte) :
    (m.control a v).slot2.toNat = if a = 0xFFFF then v.toNat % 64 else m.slot2.toNat := by
  simp only [MapSlots.control]; split <;> simp

/-- What one store leaves to be read: its byte at the RAM byte it names, everything it does not disturb as before. -/
theorem readByte_store (s : State) (w : Word) (v : Byte) (a : Word) :
    (0xC000 ≤ w.toNat → 0xC000 ≤ a.toNat → w.toNat % 0x2000 = a.toNat % 0x2000 → (s.store w v).readByte a = v) ∧
    (¬ disturbs w a → (s.store w v).readByte a = s.readByte a) := by
  constructor
  · intro hw ha he
    rw [readByte_ram _ ha, State.store_ram, ramAfter, if_pos ((accepts_iff w).2 hw), Memory.read_write]
    exact if_pos he
  · intro hd
    unfold disturbs at hd
    by_cases ha : 0xC000 ≤ a.toNat
    · rw [readByte_ram _ ha, readByte_ram _ ha, State.store_ram, ramAfter]
      split
      · next hw =>
        rw [accepts_iff] at hw
        rw [Memory.read_write, if_neg]
        intro he
        exact hd (.inl ⟨hw, ha, he⟩)
      · rfl
    · refine readByte_rom_congr (s := s) (t := s.store w v) (a := a) rfl rfl (by omega) ?_ ?_ ?_ <;> intros <;>
        simp only [State.store_slots, MapSlots.control] <;> rw [if_neg]
      · intro h; exact hd (.inr (.inl ⟨h, ‹_›, ‹_›⟩))
      · intro h; exact hd (.inr (.inr (.inl ⟨h, ‹_›, ‹_›⟩)))
      · intro h; exact hd (.inr (.inr (.inr ⟨h, ‹_›, by omega⟩)))

/-- All that a store does. -/
theorem stored_store (s : State) (w : Word) (v : Byte) : Stored [(w, v)] s (s.store w v) := by
  refine ⟨?_, ?_, ?_, ?_, ?_⟩
  · intro x hx hb
    obtain rfl := List.mem_singleton.1 hx
    exact (readByte_store s w v w).1 hb hb rfl
  · intro a ha
    exact (readByte_store s w v a).2 (ha (w, v) (by simp))
  · rw [lastWritten_single, State.store_slots, control_slot0]; split <;> simp
  · rw [lastWritten_single, State.store_slots, control_slot1]; split <;> simp
  · rw [lastWritten_single, State.store_slots, control_slot2]; split <;> simp

/-- `Stored` looks at a state only through its reads and its windows. -/
theorem Stored.congr {ws : List (Word × Byte)} {s t u : State} (h : Stored ws s t)
    (hr : ∀ a, u.readByte a = t.readByte a) (hs : u.slots = t.slots) : Stored ws s u := by
  obtain ⟨h1, h2, h3, h4, h5⟩ := h
  exact ⟨fun w hw hb => by rw [hr, h1 w hw hb], fun a ha => by rw [hr, h2 a ha], by rw [hs, h3], by rw [hs, h4],
    by rw [hs, h5]⟩

/-! ## Two bytes at neighbouring addresses -/

theorem ram_bytes_differ {x y : Word} (h : y = x + 1 ∨ x = y + 1) : x.toNat % 0x2000 ≠ y.toNat % 0x2000 := by
  rcases h with h | h <;> subst h <;> simp only [BitVec.toNat_add] <;> simp <;> omega

theorem lastWritten_pair {x y : Word} (h : x ≠ y) (u v : Byte) (a : Word) :
    lastWritten [(x, u), (y, v)] a = if y = a then some v else if x = a then some u else none := by
  unfold lastWritten
  by_cases hx : x = a
  · have : y ≠ a := fun h' => h (hx.trans h'.symm)
    simp [hx, this]
  · by_cases hy : y = a <;> simp [hx, hy]

theorem not_disturbs_neighbour {x y : Word} (h : y = x + 1 ∨ x = y + 1) (hx : 0xC000 ≤ x.toNat) : ¬ disturbs y x := by
  have hd := ram_bytes_differ h
  unfold disturbs
  omega

/-- All that two stores at neighbouring addresses do. -/
theorem stored_two (s : State) (x y : Word) (u v : Byte) (h : y = x + 1 ∨ x = y + 1) :
    Stored [(x, u), (y, v)] s ((s.store x u).store y v) := by
  have hne : x ≠ y := fun he => ram_bytes_differ h (by rw [he])
  refine ⟨?_, ?_, ?_, ?_, ?_⟩
  · intro w hw hb
    rcases List.mem_cons.1 hw with rfl | hw
    · rw [(readByte_store _ y v x).2 (not_disturbs_neighbour h hb)]
      exact (readByte_store s x u x).1 hb hb rfl
    · obtain rfl := List.mem_singleton.1 hw
      exact (readByte_store _ y v y).1 hb hb rfl
  · intro a ha
    rw [(readByte_store _ y v a).2 (ha (y, v) (by simp)), (readByte_store s x u a).2 (ha (x, u) (by simp))]
  · rw [lastWritten_pair hne, State.store_slots, control_slot0, State.store_slots, control_slot0]
    split <;> [skip; split] <;> simp_all
  · rw [lastWritten_pair hne, State.store_slots, control_slot1, State.store_slots, control_slot1]
    split <;> [skip; split] <;> simp_all
  · rw [lastWritten_pair hne, State.store_slots, control_slot2, State.store_slots, control_slot2]
    split <;> [skip; split] <;> simp_all

/-- All that WriteWord does. -/
theorem stored_storeWord (s : State) (a w : Word) :
    Stored [(a, BitVec.ofNat 8 (w.toNat % 256)), (a + 1, BitVec.ofNat 8 (w.toNat / 256))] s (s.storeWord a w) := by
  rw [← lo8_eq, ← hi8_eq]
  exact stored_two s a (a + 1) _ _ (.inl rfl)

/-- All that a push does to memory. -/
theorem stored_push16 (s : State) (w : Word) :
    Stored [(s.sp - 1, BitVec.ofNat 8 (w.toNat / 256)), (s.sp - 2, BitVec.ofNat 8 (w.toNat % 256))] s (s.push16 w) := by
  rw [← lo8_eq, ← hi8_eq]
  refine (stored_two s (s.sp - 1) (s.sp - 2) (hi8 w) (lo8 w) (.inr ?_)).congr (fun a => ?_) rfl
  · apply BitVec.eq_of_toNat_eq; simp; omega
  · exact readByte_congr rfl rfl rfl rfl a

/-! ## Words read -/

/-- ReadWord as arithmetic. -/
theorem readWord_eq (s : State) (a : Word) :
    s.readWord a = BitVec.ofNat 16 ((s.readByte a).toNat + 256 * (s.readByte (a + 1)).toNat) := join_eq _ _

/-- The word a pop returns, as arithmetic. -/
theorem stackTop_eq (s : State) :
    s.stackTop = BitVec.ofNat 16 ((s.readByte s.sp).toNat + 256 * (s.readByte (s.sp + 1)).toNat) := join_eq _ _

/-! ## Completion -/

/-- How a meaning that ends in `finish` completes. -/
theorem completes_finish {i : Instr} {s : State} {n : Nat} {touched : List Part} {post : State → Prop} (t : State)
    (he : exec i s = finish n t) (hc : t.cycles = s.cycles) (hf : UnchangedBut (.cycles :: touched) s (t.spend n))
    (hp : post (t.spend n)) : Completes i s n touched post :=
  ⟨t.spend n, he, by simp [hc], hf, hp⟩

/-- A memory of which RAM, windows, table and image are as before is unchanged. -/
theorem same_memory {s t : State} (hr : t.ram = s.ram) (hs : t.slots = s.slots) (hb : t.romBanks = s.romBanks)
    (hc : t.cart = s.cart) : Part.memory.same s t := ⟨hr, fun a => readByte_congr hr hs hb hc a⟩

end Sys2Proof
end

