-- ==== Sys2Proof/Laws/Steps.lean ====
section
/-! SUPPORT. What each shared operation of a step can do, said once: the acceptance of an interrupt, the CPU step, the
machine's step; and what a step does not look at. -/

namespace Sys2Proof

open Sys2Proof.Machine

/-- Every meaning answers a next state. -/
theorem exec_next (i : Instr) (s : State) : ∃ t, exec i s = .next t := by cases i <;> exact ⟨_, rfl⟩

/-! ## Interrupts (R510 to R515) -/

/-- All that the acceptance of an interrupt does but for the vector. -/
theorem enterInterrupt_all (s : State) (iff2 : Bool) (vector : State → Word) (n : Nat) :
    let t := s.enterInterrupt iff2 vector n
    t.halted = false ∧ t.eiShadow = false ∧ t.r = refresh s.r ∧ t.iff1 = false ∧ t.iff2 = iff2 ∧ t.sp = s.sp - 2 ∧
      t.cycles = s.cycles + n ∧
      Stored [(s.sp - 1, BitVec.ofNat 8 (s.pc.toNat / 256)), (s.sp - 2, BitVec.ofNat 8 (s.pc.toNat % 256))] s t ∧
      UnchangedBut [.halted, .eiShadow, .iff1, .iff2, .pc, .sp, .cycles, .rReg, .memory, .slots] s t := by
  refine ⟨rfl, rfl, rfl, rfl, rfl, rfl, rfl, ?_, ?_⟩
  · refine (stored_push16 s s.pc).congr (fun a => readByte_congr rfl rfl rfl rfl a) rfl
  · intro p hp
    cases p <;> first | (simp at hp; done) | rfl

/-- The vector is read after the push. -/
theorem enterInterrupt_pc (s : State) (iff2 : Bool) (n : Nat) (vector : State → Word)
    (h : ∀ u v : State, (∀ a, v.readByte a = u.readByte a) → u.i = v.i → u.busByte = v.busByte → vector v = vector u) :
    (s.enterInterrupt iff2 vector n).pc = vector (s.enterInterrupt iff2 vector n) :=
  h _ _ (fun a => readByte_congr rfl rfl rfl rfl a) rfl rfl

/-! ## The CPU step (R530) -/

/-- All that the CPU step can come to. -/
theorem cpuStep_cases (s : State) :
    (s.nmiPending = true ∧ cpuStep s = .next s.acceptNmi) ∨
    (s.nmiPending = false ∧ s.intCondition = true ∧ cpuStep s = s.acceptInt) ∨
    (s.nmiPending = false ∧ s.intCondition = false ∧ s.halted = true ∧
      cpuStep s = .next (s.endShadow.rInc.spend 4)) ∨
    (s.nmiPending = false ∧ s.intCondition = false ∧ s.halted = false ∧
      ∃ d, s.decodeAtPc = .ok d ∧ cpuStep s = exec d.instr (s.endShadow.fetched d)) ∨
    (s.nmiPending = false ∧ s.intCondition = false ∧ s.halted = false ∧
      ∃ e, s.decodeAtPc = .error e ∧ cpuStep s = .fault (.unsupportedOpcode .decode ⟨s.pc, e.opcode⟩)) := by
  unfold cpuStep
  cases hn : s.nmiPending
  · cases hi : s.intCondition
    · cases hh : s.halted
      · have hd : s.endShadow.decodeAtPc = s.decodeAtPc := rfl
        cases he : s.decodeAtPc with
        | ok d => exact .inr (.inr (.inr (.inl ⟨rfl, rfl, rfl, d, rfl, by
            simp [State.ordinaryStep, hh, State.executeAtPc, hd, he]⟩)))
        | error e => exact .inr (.inr (.inr (.inr ⟨rfl, rfl, rfl, e, rfl, by
            simp [State.ordinaryStep, hh, State.executeAtPc, hd, he]⟩)))
      · exact .inr (.inr (.inl ⟨rfl, rfl, rfl, by simp [State.ordinaryStep, hh, State.haltedStep, finish]⟩))
    · exact .inr (.inl ⟨rfl, rfl, by simp⟩)
  · exact .inl ⟨rfl, by simp⟩

/-- The maskable acceptance by mode (R512 to R514). -/
theorem acceptInt_cases (s : State) :
    (s.im = .im0 ∧ isRestart s.busByte = true ∧
      s.acceptInt = .next (s.enterInterrupt false (fun _ => zext16 (s.busByte &&& 0x38)) 13).intAck) ∨
    (s.im = .im0 ∧ isRestart s.busByte = false ∧ s.acceptInt = .fault (.unsupportedOpcode .busByte ⟨s.pc, [s.busByte]⟩)) ∨
    (s.im = .im1 ∧ s.acceptInt = .next (s.enterInterrupt false (fun _ => 0x0038) 13).intAck) ∨
    (s.im = .im2 ∧
      s.acceptInt = .next (s.enterInterrupt false (fun pushed => pushed.readWord (join s.i s.busByte)) 19).intAck) := by
  unfold State.acceptInt
  cases hm : s.im
  · cases hr : isRestart s.busByte <;> simp
  · simp
  · simp

/-! ## What a CPU step does not look at -/

/-- The same state under other values of what no instruction looks at: `run_state` and the marks. -/
def Machine.State.relabel (x : RunState) (m : Marks) (s : State) : State := { s with runState := x, marks := m }

theorem finishIf_relabel (x : RunState) (m : Marks) (c : Bool) (j k : Nat) (s t : State) :
    ∃ u, finishIf c j s k t = .next u ∧ finishIf c j (s.relabel x m) k (t.relabel x m) = .next (u.relabel x m) := by
  cases c <;> exact ⟨_, rfl, rfl⟩

theorem finishRepeat_relabel (x : RunState) (m : Marks) (c : Bool) (s : State) :
    ∃ u, finishRepeat c s = .next u ∧ finishRepeat c (s.relabel x m) = .next (u.relabel x m) := by
  cases c <;> exact ⟨_, rfl, rfl⟩

theorem finishIoRepeat_relabel (x : RunState) (m : Marks) (c : Bool) (s : State) :
    ∃ u, finishIoRepeat c s = .next u ∧ finishIoRepeat c (s.relabel x m) = .next (u.relabel x m) := by
  cases c <;> exact ⟨_, rfl, rfl⟩

/-- Neither `run_state` nor the marks have an influence on an instruction, nor an instruction on them. -/
theorem exec_relabel (x : RunState) (m : Marks) (i : Instr) (s : State) :
    ∃ t, exec i s = .next t ∧ exec i (s.relabel x m) = .next (t.relabel x m) := by
  cases i
  case ldPairNn p _ => cases p <;> exact ⟨_, rfl, rfl⟩
  case incPair p => cases p <;> exact ⟨_, rfl, rfl⟩
  case decPair p => cases p <;> exact ⟨_, rfl, rfl⟩
  case ldPairMemNn p _ => cases p <;> exact ⟨_, rfl, rfl⟩
  case popPair q => cases q <;> exact ⟨_, rfl, rfl⟩
  case djnz => exact finishIf_relabel ..
  case jrCond => exact finishIf_relabel ..
  case retCond => exact finishIf_relabel ..
  case jpCond => exact finishIf_relabel ..
  case callCond => exact finishIf_relabel ..
  case ldir => exact finishRepeat_relabel ..
  case lddr => exact finishRepeat_relabel ..
  case cpir => exact finishRepeat_relabel ..
  case cpdr => exact finishRepeat_relabel ..
  case inir => exact finishIoRepeat_relabel ..
  case indr => exact finishIoRepeat_relabel ..
  case otir => exact finishIoRepeat_relabel ..
  case otdr => exact finishIoRepeat_relabel ..
  all_goals exact ⟨_, rfl, rfl⟩

/-- The CPU step in a relabelled state. -/
theorem cpuStep_relabel (x : RunState) (m : Marks) (s : State) :
    (∃ t, cpuStep s = .next t ∧ cpuStep (s.relabel x m) = .next (t.relabel x m)) ∨
    ∃ f, cpuStep s = .fault f ∧ cpuStep (s.relabel x m) = .fault f := by
  have hn : (s.relabel x m).nmiPending = s.nmiPending := rfl
  have hi : (s.relabel x m).intCondition = s.intCondition := rfl
  have hh : (s.relabel x m).halted = s.halted := rfl
  have hd : (s.relabel x m).decodeAtPc = s.decodeAtPc := rfl
  rcases cpuStep_cases s with ⟨h, hs⟩ | ⟨h1, h2, hs⟩ | ⟨h1, h2, h3, hs⟩ | ⟨h1, h2, h3, d, h4, hs⟩ | ⟨h1, h2, h3, e, h4, hs⟩
  · exact .inl ⟨_, hs, by simp [cpuStep, hn, h]; rfl⟩
  · have hr : cpuStep (s.relabel x m) = (s.relabel x m).acceptInt := by simp [cpuStep, hn, hi, h1, h2]
    rw [hs, hr]
    rcases acceptInt_cases s with ⟨_, _, h⟩ | ⟨_, _, h⟩ | ⟨_, h⟩ | ⟨_, h⟩ <;>
      rcases acceptInt_cases (s.relabel x m) with ⟨_, _, h'⟩ | ⟨_, _, h'⟩ | ⟨_, h'⟩ | ⟨_, h'⟩ <;>
      first
        | exact .inl ⟨_, h, h'⟩
        | exact .inr ⟨_, h, h'⟩
        | simp_all [State.relabel]
  · exact .inl ⟨_, hs, by simp [cpuStep, State.ordinaryStep, hn, hi, hh, h1, h2, h3]; rfl⟩
  · obtain ⟨t, ht, hr⟩ := exec_relabel x m d.instr (s.endShadow.fetched d)
    refine .inl ⟨t, hs.trans ht, ?_⟩
    rw [← hr]
    have : (s.relabel x m).endShadow.decodeAtPc = .ok d := h4
    simp [cpuStep, State.ordinaryStep, hn, hi, hh, h1, h2, h3, State.executeAtPc, this]
    rfl
  · have : (s.relabel x m).endShadow.decodeAtPc = .error e := h4
    refine .inr ⟨_, hs, ?_⟩
    simp [cpuStep, State.ordinaryStep, hn, hi, hh, h1, h2, h3, State.executeAtPc, this]
    rfl

/-! ## The CPU step under UNWRITTEN_READ (R601) -/

/-- All that a step under a setting of UNWRITTEN_READ can come to, from the outcome it has on the machine (R601). -/
theorem under_cases (setting : UnwrittenRead) (s : State) (o : Host.Outcome State Fault Refusal) :
    (∃ l, setting = .fault ∧ l ∈ s.stepReads ∧ l ∈ s.marks.unwritten ∧ s.under setting o = .unwrittenRead l) ∨
    ((setting = .draw ∨ ∀ l ∈ s.stepReads, l ∉ s.marks.unwritten) ∧ s.under setting o = .machine o) := by
  cases setting with
  | draw => exact .inr ⟨.inl rfl, rfl⟩
  | fault =>
    cases h : s.marks.firstUnwritten s.stepReads with
    | some l =>
      refine .inl ⟨l, rfl, List.mem_of_find?_eq_some h, by simpa using List.find?_some h, ?_⟩
      simp [State.under, State.unwrittenRead, h]
    | none =>
      refine .inr ⟨.inr fun l hl => by simpa using List.find?_eq_none.1 h l hl, ?_⟩
      simp [State.under, State.unwrittenRead, h]

/-! ## The turn of the Run loop (R542) -/

/-- All that the body of the Run loop can come to. -/
theorem loopBody_cases (frameCycles : Nat) (s : State) :
    (∃ t, cpuStep s.moveMarks = .next t ∧
      s.loopBody frameCycles = .next ((t.tick (t.cycles - s.cycles)).crossFrames frameCycles)) ∨
    (∃ f, cpuStep s.moveMarks = .fault f ∧ s.loopBody frameCycles = .fault f) ∨
    ∃ r, cpuStep s.moveMarks = .refused r ∧ s.loopBody frameCycles = .refused r := by
  unfold State.loopBody
  cases cpuStep s.moveMarks
  · exact .inl ⟨_, rfl, rfl⟩
  · exact .inr (.inl ⟨_, rfl, rfl⟩)
  · exact .inr (.inr ⟨_, rfl, rfl⟩)

/-- A turn is nothing, where Run returns at its entry, else the body of the loop from the running state. -/
theorem turn_cases (frameCycles : Nat) (s : State) :
    (s.runState = .idle ∧ (s.powered = false ∨ s.fault ≠ none) ∧ s.turn frameCycles = .next s) ∨
    ((s.runState = .running ∨ s.powered = true ∧ s.fault = none) ∧
      s.turn frameCycles = s.enterRun.loopBody frameCycles) := by
  unfold State.turn
  cases hr : s.runState
  · cases hb : s.runReturnsAtOnce
    · refine .inr ⟨.inr ?_, by simp⟩
      simpa [State.runReturnsAtOnce, Option.isSome_eq_false_iff] using hb
    · refine .inl ⟨rfl, ?_, by simp⟩
      simpa [State.runReturnsAtOnce, Option.isSome_iff_ne_none] using hb
  · have : s.enterRun = s := by cases s; simp_all [State.enterRun]
    rw [this]
    exact .inr ⟨.inl rfl, rfl⟩

/-- All that a step of the machine can come to: nothing, where Run returns at its entry; else a CPU step from the running
state, and after it the hand-out of its T-states. -/
theorem step_cases (s : State) :
    (s.runState = .idle ∧ (s.powered = false ∨ s.fault ≠ none) ∧ step s = .next s) ∨
    ((s.runState = .running ∨ s.powered = true ∧ s.fault = none) ∧
      ((∃ t, cpuStep s.enterRun.moveMarks = .next t ∧
          step s = .next ((t.tick (t.cycles - s.cycles)).crossFrames Config.frameCycles)) ∨
        (∃ f, cpuStep s.enterRun.moveMarks = .fault f ∧ step s = .fault f) ∨
        ∃ r, cpuStep s.enterRun.moveMarks = .refused r ∧ step s = .refused r)) := by
  rcases turn_cases Config.frameCycles s with h | ⟨hr, h⟩
  · exact .inl h
  · have body := loopBody_cases Config.frameCycles s.enterRun
    rw [← h] at body
    exact .inr ⟨hr, body⟩

/-- A turn under a setting is the machine's where Run returns at its entry, else that turn with R601's check before it. -/
theorem runIteration_cases (setting : UnwrittenRead) (frameCycles : Nat) (s : State) :
    (s.runState = .idle ∧ (s.powered = false ∨ s.fault ≠ none) ∧ runIteration setting frameCycles s = .machine (.next s)) ∨
    ((s.runState = .running ∨ s.powered = true ∧ s.fault = none) ∧
      runIteration setting frameCycles s = s.under setting (s.turn frameCycles)) := by
  unfold runIteration
  rcases turn_cases frameCycles s with ⟨hi, hp, ht⟩ | ⟨hr, _⟩
  · refine .inl ⟨hi, hp, ?_⟩
    have : s.runReturnsAtOnce = true := by simpa [State.runReturnsAtOnce, Option.isSome_iff_ne_none] using hp
    rw [if_pos ⟨hi, this⟩, ht]
  · refine .inr ⟨hr, if_neg ?_⟩
    rintro ⟨hi, hp⟩
    rcases hr with hr | ⟨hr, hf⟩
    · rw [hr] at hi; cases hi
    · simp [State.runReturnsAtOnce, hr, hf] at hp

/-- Under `draw` no read stops: every turn is the machine's own (R601). -/
theorem runIteration_draw (frameCycles : Nat) (s : State) :
    runIteration .draw frameCycles s = .machine (s.turn frameCycles) := by
  unfold runIteration
  split <;> rfl

end Sys2Proof
end

