-- ==== Sys2Proof/Tests/Slice0.lean ====
section
/-! SUPPORT. The model's own tests: the ill-formed terms, one word for every constructor, one step from the spec's vectors,
the memory unit's and the scheduler's vectors, and for every statement with hypotheses a state that meets them. -/

namespace Sys2Proof.Tests

open Sys2Proof Sys2Proof.Machine

/-! ## Well-formedness: each check refuses an ill-formed term -/

theorem test_wellFormed_refuses :
    [Instr.rst 8, .bitReg 8 .a, .bitMemHl 8, .resReg 8 .b, .resMemHl 8, .setReg 8 .c, .setMemHl 8, .bitMemIx 8 0x00,
      .resMemIx 8 0x01, .setMemIx 8 0x7F, .bitMemIy 8 0x80, .resMemIy 8 0xFF, .setMemIy 8 0x05].all
        (fun i => !i.wellFormed) = true := by decide

theorem test_wellFormed_accepts :
    [Instr.rst 7, .bitReg 7 .a, .setMemIy 0 0x80, .nop].all (fun i => i.wellFormed) = true := by decide

/-! ## One word for every constructor, written out from the table's encoding of it (nbits, word, instruction) -/

/-- Every listed word decodes to its instruction. -/
def decodesTo (rows : List (Nat × Nat × Instr)) : Bool := rows.all fun r => decodeTableWord r.1 r.2.1 == some r.2.2


theorem test_decode_words_1 : decodesTo [
    (8, 0x00, .nop), (24, 0x013722, .ldPairNn .bc 0x2237), (8, 0x39, .addHlPair .sp), (8, 0x02, .ldMemBcA),
    (8, 0x12, .ldMemDeA), (24, 0x224362, .ldMemNnHl 0x6243), (24, 0x324672, .ldMemNnA 0x7246), (8, 0x0A, .ldAMemBc),
    (8, 0x1A, .ldAMemDe), (24, 0x2A4FA2, .ldHlMemNn 0xA24F), (24, 0x3A52B2, .ldAMemNn 0xB252),
    (8, 0x23, .incPair .hl), (8, 0x1B, .decPair .de), (8, 0x2C, .incReg .l), (8, 0x34, .incMemHl),
    (8, 0x25, .decReg .h), (8, 0x35, .decMemHl), (16, 0x1E55, .ldRegN .e 0x55), (16, 0x361F, .ldMemHlN 0x1F),
    (8, 0x07, .rlca)] = true := by decide

theorem test_decode_words_2 : decodesTo [
    (8, 0x0F, .rrca), (8, 0x17, .rla), (8, 0x1F, .rra), (8, 0x27, .daa), (8, 0x2F, .cpl), (8, 0x37, .scf),
    (8, 0x3F, .ccf), (8, 0x08, .exAfAf), (16, 0x1091, .djnz 0x91), (16, 0x18B6, .jr 0xB6),
    (16, 0x3836, .jrCond .c 0x36), (8, 0x5D, .ldRegReg .e .l), (8, 0x7E, .ldRegMemHl .a), (8, 0x72, .ldMemHlReg .d),
    (8, 0x76, .halt), (8, 0x81, .addReg .c), (8, 0x86, .addMemHl), (16, 0xC6DE, .addImm 0xDE), (8, 0x8B, .adcReg .e),
    (8, 0x8E, .adcMemHl)] = true := by decide

theorem test_decode_words_3 : decodesTo [
    (16, 0xCE4D, .adcImm 0x4D), (8, 0x95, .subReg .l), (8, 0x96, .subMemHl), (16, 0xD6BC, .subImm 0xBC),
    (8, 0x98, .sbcReg .b), (8, 0x9E, .sbcMemHl), (16, 0xDE2B, .sbcImm 0x2B), (8, 0xA2, .andReg .d),
    (8, 0xA6, .andMemHl), (16, 0xE69A, .andImm 0x9A), (8, 0xAC, .xorReg .h), (8, 0xAE, .xorMemHl),
    (16, 0xEE09, .xorImm 0x09), (8, 0xB7, .orReg .a), (8, 0xB6, .orMemHl), (16, 0xF678, .orImm 0x78),
    (8, 0xB9, .cpReg .c), (8, 0xBE, .cpMemHl), (16, 0xFEE7, .cpImm 0xE7), (8, 0xD0, .retCond .nc)] = true := by decide

theorem test_decode_words_4 : decodesTo [
    (8, 0xD1, .popPair .de), (8, 0xC9, .ret), (8, 0xD9, .exx), (8, 0xE9, .jpHl), (8, 0xF9, .ldSpHl),
    (24, 0xE2F722, .jpCond .po 0x22F7), (24, 0xC3FA32, .jp 0x32FA), (16, 0xD334, .outImmA 0x34),
    (16, 0xDB59, .inAImm 0x59), (8, 0xE3, .exMemSpHl), (8, 0xEB, .exDeHl), (8, 0xF3, .di), (8, 0xFB, .ei),
    (24, 0xE40FA3, .callCond .po 0xA30F), (8, 0xF5, .pushPair .af), (24, 0xCD15C3, .call 0xC315), (8, 0xFF, .rst 7),
    (16, 0xCB01, .rlcReg .c), (16, 0xCB06, .rlcMemHl), (16, 0xCB08, .rrcReg .b)] = true := by decide

theorem test_decode_words_5 : decodesTo [
    (16, 0xCB0E, .rrcMemHl), (16, 0xCB17, .rlReg .a), (16, 0xCB16, .rlMemHl), (16, 0xCB1D, .rrReg .l),
    (16, 0xCB1E, .rrMemHl), (16, 0xCB24, .slaReg .h), (16, 0xCB26, .slaMemHl), (16, 0xCB2B, .sraReg .e),
    (16, 0xCB2E, .sraMemHl), (16, 0xCB3A, .srlReg .d), (16, 0xCB3E, .srlMemHl), (16, 0xCB53, .bitReg 2 .e),
    (16, 0xCB7E, .bitMemHl 7), (16, 0xCBA2, .resReg 4 .d), (16, 0xCB8E, .resMemHl 1), (16, 0xCBF1, .setReg 6 .c),
    (16, 0xCBDE, .setMemHl 3), (16, 0xED68, .inRegC .l), (16, 0xED49, .outCReg .c), (16, 0xED62, .sbcHlPair .hl)] =
    true := by decide

theorem test_decode_words_6 : decodesTo [
    (16, 0xED5A, .adcHlPair .de), (32, 0xED636363, .ldMemNnPair 0x6363 .hl),
    (32, 0xED7B6673, .ldPairMemNn .sp 0x7366), (16, 0xED44, .neg), (16, 0xED45, .retn), (16, 0xED4D, .reti),
    (16, 0xED46, .im0), (16, 0xED56, .im1), (16, 0xED5E, .im2), (16, 0xED47, .ldIA), (16, 0xED4F, .ldRA),
    (16, 0xED57, .ldAI), (16, 0xED5F, .ldAR), (16, 0xED67, .rrd), (16, 0xED6F, .rld), (16, 0xEDA0, .ldi),
    (16, 0xEDA1, .cpi), (16, 0xEDA2, .ini), (16, 0xEDA3, .outi), (16, 0xEDA8, .ldd)] = true := by decide

theorem test_decode_words_7 : decodesTo [
    (16, 0xEDA9, .cpd), (16, 0xEDAA, .ind), (16, 0xEDAB, .outd), (16, 0xEDB0, .ldir), (16, 0xEDB1, .cpir),
    (16, 0xEDB2, .inir), (16, 0xEDB3, .otir), (16, 0xEDB8, .lddr), (16, 0xEDB9, .cpdr), (16, 0xEDBA, .indr),
    (16, 0xEDBB, .otdr), (16, 0xDD29, .addIxPair .ix), (32, 0xDD21C053, .ldIxNn 0x53C0),
    (32, 0xDD22C363, .ldMemNnIx 0x63C3), (16, 0xDD23, .incIx), (32, 0xDD2AC983, .ldIxMemNn 0x83C9),
    (16, 0xDD2B, .decIx), (24, 0xDD3452, .incMemIx 0x52), (24, 0xDD3577, .decMemIx 0x77),
    (32, 0xDD369CF7, .ldMemIxN 0x9C 0xF7)] = true := by decide

theorem test_decode_words_8 : decodesTo [
    (24, 0xDD4E1C, .ldRegMemIx .c 0x1C), (24, 0xDD77E6, .ldMemIxReg 0xE6 .a), (24, 0xDD860B, .addMemIx 0x0B),
    (24, 0xDD8E30, .adcMemIx 0x30), (24, 0xDD9655, .subMemIx 0x55), (24, 0xDD9E7A, .sbcMemIx 0x7A),
    (24, 0xDDA69F, .andMemIx 0x9F), (24, 0xDDAEC4, .xorMemIx 0xC4), (24, 0xDDB6E9, .orMemIx 0xE9),
    (24, 0xDDBE0E, .cpMemIx 0x0E), (16, 0xDDE1, .popIx), (16, 0xDDE3, .exMemSpIx), (16, 0xDDE5, .pushIx),
    (16, 0xDDE9, .jpIx), (16, 0xDDF9, .ldSpIx), (32, 0xDDCBEC06, .rlcMemIx 0xEC), (32, 0xDDCB110E, .rrcMemIx 0x11),
    (32, 0xDDCB3616, .rlMemIx 0x36), (32, 0xDDCB5B1E, .rrMemIx 0x5B), (32, 0xDDCB8026, .slaMemIx 0x80)] = true := by
    decide

theorem test_decode_words_9 : decodesTo [
    (32, 0xDDCBA52E, .sraMemIx 0xA5), (32, 0xDDCBCA3E, .srlMemIx 0xCA), (32, 0xDDCB4A6E, .bitMemIx 5 0x4A),
    (32, 0xDDCB6F96, .resMemIx 2 0x6F), (32, 0xDDCB94FE, .setMemIx 7 0x94), (16, 0xFD09, .addIyPair .bc),
    (32, 0xFD212674, .ldIyNn 0x7426), (32, 0xFD222984, .ldMemNnIy 0x8429), (16, 0xFD23, .incIy),
    (32, 0xFD2A2FA4, .ldIyMemNn 0xA42F), (16, 0xFD2B, .decIy), (24, 0xFD343C, .incMemIy 0x3C),
    (24, 0xFD3561, .decMemIy 0x61), (32, 0xFD3686E1, .ldMemIyN 0x86 0xE1), (24, 0xFD6E06, .ldRegMemIy .l 0x06),
    (24, 0xFD73D0, .ldMemIyReg 0xD0 .e), (24, 0xFD86F5, .addMemIy 0xF5), (24, 0xFD8E1A, .adcMemIy 0x1A),
    (24, 0xFD963F, .subMemIy 0x3F), (24, 0xFD9E64, .sbcMemIy 0x64)] = true := by decide

theorem test_decode_words_10 : decodesTo [
    (24, 0xFDA689, .andMemIy 0x89), (24, 0xFDAEAE, .xorMemIy 0xAE), (24, 0xFDB6D3, .orMemIy 0xD3),
    (24, 0xFDBEF8, .cpMemIy 0xF8), (16, 0xFDE1, .popIy), (16, 0xFDE3, .exMemSpIy), (16, 0xFDE5, .pushIy),
    (16, 0xFDE9, .jpIy), (16, 0xFDF9, .ldSpIy), (32, 0xFDCBD606, .rlcMemIy 0xD6), (32, 0xFDCBFB0E, .rrcMemIy 0xFB),
    (32, 0xFDCB2016, .rlMemIy 0x20), (32, 0xFDCB451E, .rrMemIy 0x45), (32, 0xFDCB6A26, .slaMemIy 0x6A),
    (32, 0xFDCB8F2E, .sraMemIy 0x8F), (32, 0xFDCBB43E, .srlMemIy 0xB4), (32, 0xFDCB347E, .bitMemIy 7 0x34),
    (32, 0xFDCB59A6, .resMemIy 4 0x59), (32, 0xFDCB7ECE, .setMemIy 1 0x7E)] = true := by decide

/-- Code and data in system RAM, by RAM index, and PC at 0xC000. -/
def atC000 (cells : List Host.Cell) (s : State) : State := { s with pc := 0xC000, ram := Memory.ofCells cells }

/-- The CPU step goes on, costs `n` T-states and leaves what `ok` asks. -/
def stepsTo (s : State) (n : Nat) (ok : State → Bool) : Bool :=
  match cpuStep s with
  | .next t => t.cycles == s.cycles + n && ok t
  | _ => false

/-- The CPU step is the fatal fault with this record. -/
def faults (s : State) (record : FaultRecord) : Bool :=
  match cpuStep s with
  | .fault (.unsupportedOpcode _ found) => found == record
  | _ => false


/-! ## One step each, from the vectors of spec/95_test_vectors.md -/

/-- V40.01 `LD B,C`. -/
theorem test_ldRegReg_V40_01 : stepsTo (atC000 [(0x0000, 0x41)]
    { State.reset with regs := { RegFile.zero with c := 0x5A } }) 4 (fun t => t.regs.b == 0x5A && t.regs.f == 0x00 &&
    t.pc == 0xC001 && t.r == 0x01) = true := by decide

/-- V40.02 `LD E,n`. -/
theorem test_ldRegN_V40_02 : stepsTo (atC000 [(0x0000, 0x1E), (0x0001, 0x80)] State.reset) 7 (fun t =>
    t.regs.e == 0x80 && t.regs.f == 0x00 && t.pc == 0xC002 && t.r == 0x01) = true := by decide

/-- V40.03 `LD A,(HL)`. -/
theorem test_ldRegReg_V40_03 : stepsTo (atC000 [(0x0000, 0x7E), (0x0100, 0x3C)]
    { State.reset with regs := { RegFile.zero with h := 0xC1, l := 0x00 } }) 7 (fun t => t.regs.a == 0x3C &&
    t.regs.f == 0x00 && t.pc == 0xC001 && t.r == 0x01) = true := by decide

/-- V40.05 `LD (HL),n`. -/
theorem test_ldRegN_V40_05 : stepsTo (atC000 [(0x0000, 0x36), (0x0001, 0x77)]
    { State.reset with regs := { RegFile.zero with h := 0xC1, l := 0x00 } }) 10 (fun t => t.regs.f == 0x00 &&
    t.pc == 0xC002 && t.r == 0x01 && t.readByte 0xC100 == 0x77) = true := by decide

/-- V40.08 `LD A,(IX-2)`. -/
theorem test_ldRegMemIx_V40_08 : stepsTo (atC000 [(0x0000, 0xDD), (0x0001, 0x7E), (0x0002, 0xFE), (0x0100, 0x99)]
    { State.reset with ix := 0xC102 }) 19 (fun t => t.regs.a == 0x99 && t.regs.f == 0x00 && t.pc == 0xC003 &&
    t.r == 0x02) = true := by decide

/-- V40.09 `LD (IY+5),n`. -/
theorem test_ldMemIyN_V40_09 : stepsTo (atC000 [(0x0000, 0xFD), (0x0001, 0x36), (0x0002, 0x05), (0x0003, 0xAB)]
    { State.reset with iy := 0xC100 }) 19 (fun t => t.regs.f == 0x00 && t.pc == 0xC004 && t.r == 0x02 &&
    t.readByte 0xC105 == 0xAB) = true := by decide

/-- V40.10 `LD (IX+127),A`. -/
theorem test_ldMemIxReg_V40_10 : stepsTo (atC000 [(0x0000, 0xDD), (0x0001, 0x77), (0x0002, 0x7F)]
    { State.reset with regs := { RegFile.zero with a := 0x42 }, ix := 0xC000 }) 19 (fun t => t.regs.f == 0x00 &&
    t.pc == 0xC003 && t.r == 0x02 && t.readByte 0xC07F == 0x42) = true := by decide

/-- V40.11 `LD A,(nn)`. -/
theorem test_ldAMemNn_V40_11 : stepsTo (atC000 [(0x0000, 0x3A), (0x0001, 0x00), (0x0002, 0xC1), (0x0100, 0x5E)]
    State.reset) 13 (fun t => t.regs.a == 0x5E && t.regs.f == 0x00 && t.pc == 0xC003 && t.r == 0x01) = true := by
    decide

/-- V40.12 `LD (nn),A at 0xFFFF`. -/
theorem test_ldMemNnA_V40_12 : stepsTo (atC000 [(0x0000, 0x32), (0x0001, 0xFF), (0x0002, 0xFF)]
    { State.reset with regs := { RegFile.zero with a := 0x43 } }) 13 (fun t => t.regs.f == 0x00 && t.pc == 0xC003 &&
    t.r == 0x01 && t.readByte 0xDFFF == 0x43 && t.slots == ⟨0, 1, 3⟩) = true := by decide

/-- V40.13 `LD A,(BC)`. -/
theorem test_ldAMemBc_V40_13 : stepsTo (atC000 [(0x0000, 0x0A), (0x0200, 0x12)]
    { State.reset with regs := { RegFile.zero with b := 0xC2, c := 0x00 } }) 7 (fun t => t.regs.a == 0x12 &&
    t.regs.f == 0x00 && t.pc == 0xC001 && t.r == 0x01) = true := by decide

/-- V40.14 `LD (DE),A`. -/
theorem test_ldMemDeA_V40_14 : stepsTo (atC000 [(0x0000, 0x12)]
    { State.reset with regs := { RegFile.zero with a := 0x34, d := 0xC2, e := 0x01 } }) 7 (fun t => t.regs.f == 0x00
    && t.pc == 0xC001 && t.r == 0x01 && t.readByte 0xC201 == 0x34) = true := by decide

/-- V40.15 `LD HL,nn`. -/
theorem test_ldPairNn_V40_15 : stepsTo (atC000 [(0x0000, 0x21), (0x0001, 0x34), (0x0002, 0x12)] State.reset) 10 (fun t
    => t.regs.h == 0x12 && t.regs.l == 0x34 && t.regs.f == 0x00 && t.pc == 0xC003 && t.r == 0x01) = true := by decide

/-- V40.16 `LD HL,(nn)`. -/
theorem test_ldHlMemNn_V40_16 : stepsTo (atC000 [(0x0000, 0x2A), (0x0001, 0x00), (0x0002, 0xC1), (0x0100, 0x34),
    (0x0101, 0x12)] State.reset) 16 (fun t => t.regs.h == 0x12 && t.regs.l == 0x34 && t.regs.f == 0x00 &&
    t.pc == 0xC003 && t.r == 0x01) = true := by decide

/-- V40.17 `LD (nn),HL at 0xBFFF`. -/
theorem test_ldMemNnHl_V40_17 : stepsTo (atC000 [(0x0000, 0x22), (0x0001, 0xFF), (0x0002, 0xBF)]
    { State.reset with regs := { RegFile.zero with h := 0x12, l := 0x34 } }) 16 (fun t => t.regs.f == 0x00 &&
    t.pc == 0xC003 && t.r == 0x01 && t.readByte 0xC000 == 0x12) = true := by decide

/-- V40.18 `LD (nn),HL at 0xFFFF`. -/
theorem test_ldMemNnHl_V40_18 : stepsTo (atC000 [(0x0000, 0x22), (0x0001, 0xFF), (0x0002, 0xFF)]
    { State.reset with regs := { RegFile.zero with h := 0x12, l := 0x34 } }) 16 (fun t => t.regs.f == 0x00 &&
    t.pc == 0xC003 && t.r == 0x01 && t.readByte 0xDFFF == 0x34 && t.slots == ⟨0, 1, 52⟩) = true := by decide

/-- V40.19 `LD BC,(nn)`. -/
theorem test_ldPairMemNn_V40_19 : stepsTo (atC000 [(0x0000, 0xED), (0x0001, 0x4B), (0x0002, 0x00), (0x0003, 0xC1),
    (0x0100, 0xCD), (0x0101, 0xAB)] State.reset) 20 (fun t => t.regs.b == 0xAB && t.regs.c == 0xCD && t.regs.f == 0x00
    && t.pc == 0xC004 && t.r == 0x02) = true := by decide

/-- V40.20 `LD (nn),SP`. -/
theorem test_ldMemNnPair_V40_20 : stepsTo (atC000 [(0x0000, 0xED), (0x0001, 0x73), (0x0002, 0x00), (0x0003, 0xC1)]
    { State.reset with sp := 0xDFF0 }) 20 (fun t => t.regs.f == 0x00 && t.pc == 0xC004 && t.r == 0x02 &&
    t.readByte 0xC100 == 0xF0 && t.readByte 0xC101 == 0xDF) = true := by decide

/-- V40.21 `LD IX,nn`. -/
theorem test_ldIxNn_V40_21 : stepsTo (atC000 [(0x0000, 0xDD), (0x0001, 0x21), (0x0002, 0x34), (0x0003, 0x12)]
    State.reset) 14 (fun t => t.regs.f == 0x00 && t.pc == 0xC004 && t.ix == 0x1234 && t.r == 0x02) = true := by decide

/-- V40.22 `LD (nn),IY`. -/
theorem test_ldMemNnIy_V40_22 : stepsTo (atC000 [(0x0000, 0xFD), (0x0001, 0x22), (0x0002, 0x00), (0x0003, 0xC1)]
    { State.reset with iy := 0xBEEF }) 20 (fun t => t.regs.f == 0x00 && t.pc == 0xC004 && t.r == 0x02 &&
    t.readByte 0xC100 == 0xEF && t.readByte 0xC101 == 0xBE) = true := by decide

/-- V40.23 `LD SP,HL`. -/
theorem test_ldSpHl_V40_23 : stepsTo (atC000 [(0x0000, 0xF9)]
    { State.reset with regs := { RegFile.zero with h := 0xDF, l := 0xF0 } }) 6 (fun t => t.regs.f == 0x00 &&
    t.pc == 0xC001 && t.sp == 0xDFF0 && t.r == 0x01) = true := by decide

/-- V40.24 `LD SP,IX`. -/
theorem test_ldSpIx_V40_24 : stepsTo (atC000 [(0x0000, 0xDD), (0x0001, 0xF9)] { State.reset with ix := 0xD000 }) 10
    (fun t => t.regs.f == 0x00 && t.pc == 0xC002 && t.sp == 0xD000 && t.r == 0x02) = true := by decide

/-- V40.25 `LD A,I (IFF2=1)`. -/
theorem test_ldAI_V40_25 : stepsTo (atC000 [(0x0000, 0xED), (0x0001, 0x57)]
    { State.reset with regs := { RegFile.zero with f := 0x01 }, i := 0x80, iff2 := true }) 9 (fun t =>
    t.regs.a == 0x80 && t.regs.f == 0x85 && t.pc == 0xC002 && t.r == 0x02) = true := by decide

/-- V40.26 `LD A,I (I=0, IFF2=0)`. -/
theorem test_ldAI_V40_26 : stepsTo (atC000 [(0x0000, 0xED), (0x0001, 0x57)]
    { State.reset with regs := { RegFile.zero with a := 0x55 }, i := 0x00, iff2 := false }) 9 (fun t =>
    t.regs.a == 0x00 && t.regs.f == 0x40 && t.pc == 0xC002 && t.r == 0x02) = true := by decide

/-- V40.27 `LD A,R`. -/
theorem test_ldAR_V40_27 : stepsTo (atC000 [(0x0000, 0xED), (0x0001, 0x5F)] { State.reset with r := 0x7F }) 9 (fun t
    => t.regs.a == 0x01 && t.regs.f == 0x00 && t.r == 0x01 && t.pc == 0xC002) = true := by decide

/-- V40.28 `LD R,A`. -/
theorem test_ldRA_V40_28 : stepsTo (atC000 [(0x0000, 0xED), (0x0001, 0x4F)]
    { State.reset with regs := { RegFile.zero with a := 0x80 }, r := 0x05 }) 9 (fun t => t.regs.f == 0x00 &&
    t.r == 0x80 && t.pc == 0xC002) = true := by decide

/-- V40.29 `LD I,A`. -/
theorem test_ldIA_V40_29 : stepsTo (atC000 [(0x0000, 0xED), (0x0001, 0x47)]
    { State.reset with regs := { RegFile.zero with a := 0x3F } }) 9 (fun t => t.regs.f == 0x00 && t.pc == 0xC002 &&
    t.i == 0x3F && t.r == 0x02) = true := by decide

/-- V41.01 `ADD A,B (signed overflow)`. -/
theorem test_addReg_V41_01 : stepsTo (atC000 [(0x0000, 0x80)]
    { State.reset with regs := { RegFile.zero with a := 0x7F, b := 0x01 } }) 4 (fun t => t.regs.a == 0x80 &&
    t.regs.f == 0x94 && t.pc == 0xC001 && t.r == 0x01) = true := by decide

/-- V41.02 `ADD A,n (carry, zero)`. -/
theorem test_addImm_V41_02 : stepsTo (atC000 [(0x0000, 0xC6), (0x0001, 0x01)]
    { State.reset with regs := { RegFile.zero with a := 0xFF } }) 7 (fun t => t.regs.a == 0x00 && t.regs.f == 0x51 &&
    t.pc == 0xC002 && t.r == 0x01) = true := by decide

/-- V41.03 `ADD A,A`. -/
theorem test_addReg_V41_03 : stepsTo (atC000 [(0x0000, 0x87)]
    { State.reset with regs := { RegFile.zero with a := 0x88 } }) 4 (fun t => t.regs.a == 0x10 && t.regs.f == 0x15 &&
    t.pc == 0xC001 && t.r == 0x01) = true := by decide

/-- V41.04 `ADC A,n (carry in)`. -/
theorem test_adcImm_V41_04 : stepsTo (atC000 [(0x0000, 0xCE), (0x0001, 0x00)]
    { State.reset with regs := { RegFile.zero with a := 0x0F, f := 0x01 } }) 7 (fun t => t.regs.a == 0x10 &&
    t.regs.f == 0x10 && t.pc == 0xC002 && t.r == 0x01) = true := by decide

/-- V41.05 `ADC A,n (0x7F+0x00+1)`. -/
theorem test_adcImm_V41_05 : stepsTo (atC000 [(0x0000, 0xCE), (0x0001, 0x00)]
    { State.reset with regs := { RegFile.zero with a := 0x7F, f := 0x01 } }) 7 (fun t => t.regs.a == 0x80 &&
    t.regs.f == 0x94 && t.pc == 0xC002 && t.r == 0x01) = true := by decide

/-- V41.06 `SUB B (borrow)`. -/
theorem test_subReg_V41_06 : stepsTo (atC000 [(0x0000, 0x90)]
    { State.reset with regs := { RegFile.zero with a := 0x00, b := 0x01 } }) 4 (fun t => t.regs.a == 0xFF &&
    t.regs.f == 0xBB && t.pc == 0xC001 && t.r == 0x01) = true := by decide

/-- V41.07 `SUB n (equal)`. -/
theorem test_subImm_V41_07 : stepsTo (atC000 [(0x0000, 0xD6), (0x0001, 0x42)]
    { State.reset with regs := { RegFile.zero with a := 0x42 } }) 7 (fun t => t.regs.a == 0x00 && t.regs.f == 0x42 &&
    t.pc == 0xC002 && t.r == 0x01) = true := by decide

/-- V41.08 `SBC A,n (0x80-0-1, overflow)`. -/
theorem test_sbcImm_V41_08 : stepsTo (atC000 [(0x0000, 0xDE), (0x0001, 0x00)]
    { State.reset with regs := { RegFile.zero with a := 0x80, f := 0x01 } }) 7 (fun t => t.regs.a == 0x7F &&
    t.regs.f == 0x3E && t.pc == 0xC002 && t.r == 0x01) = true := by decide

/-- V41.09 `CP n (less)`. -/
theorem test_cpImm_V41_09 : stepsTo (atC000 [(0x0000, 0xFE), (0x0001, 0x50)]
    { State.reset with regs := { RegFile.zero with a := 0x40 } }) 7 (fun t => t.regs.f == 0x83 && t.pc == 0xC002 &&
    t.r == 0x01) = true := by decide

/-- V41.10 `CP n (operand bits 5,3 set)`. -/
theorem test_cpImm_V41_10 : stepsTo (atC000 [(0x0000, 0xFE), (0x0001, 0x28)]
    { State.reset with regs := { RegFile.zero with a := 0x28 } }) 7 (fun t => t.regs.f == 0x6A && t.pc == 0xC002 &&
    t.r == 0x01) = true := by decide

/-- V41.11 `AND n`. -/
theorem test_andImm_V41_11 : stepsTo (atC000 [(0x0000, 0xE6), (0x0001, 0x3C)]
    { State.reset with regs := { RegFile.zero with a := 0xF0 } }) 7 (fun t => t.regs.a == 0x30 && t.regs.f == 0x34 &&
    t.pc == 0xC002 && t.r == 0x01) = true := by decide

/-- V41.12 `XOR A`. -/
theorem test_xorReg_V41_12 : stepsTo (atC000 [(0x0000, 0xAF)]
    { State.reset with regs := { RegFile.zero with a := 0x5A, f := 0xFF } }) 4 (fun t => t.regs.a == 0x00 &&
    t.regs.f == 0x44 && t.pc == 0xC001 && t.r == 0x01) = true := by decide

/-- V41.13 `OR n`. -/
theorem test_orImm_V41_13 : stepsTo (atC000 [(0x0000, 0xF6), (0x0001, 0x81)]
    { State.reset with regs := { RegFile.zero with a := 0x00 } }) 7 (fun t => t.regs.a == 0x81 && t.regs.f == 0x84 &&
    t.pc == 0xC002 && t.r == 0x01) = true := by decide

/-- V41.15 `SUB (IX+1)`. -/
theorem test_subMemIx_V41_15 : stepsTo (atC000 [(0x0000, 0xDD), (0x0001, 0x96), (0x0002, 0x01), (0x0100, 0x11)]
    { State.reset with regs := { RegFile.zero with a := 0x10 }, ix := 0xC0FF }) 19 (fun t => t.regs.a == 0xFF &&
    t.regs.f == 0xBB && t.pc == 0xC003 && t.r == 0x02) = true := by decide

/-- V41.16 `INC A (0x7F)`. -/
theorem test_incReg_V41_16 : stepsTo (atC000 [(0x0000, 0x3C)]
    { State.reset with regs := { RegFile.zero with a := 0x7F, f := 0x01 } }) 4 (fun t => t.regs.a == 0x80 &&
    t.regs.f == 0x95 && t.pc == 0xC001 && t.r == 0x01) = true := by decide

/-- V41.17 `INC L (0xFF)`. -/
theorem test_incReg_V41_17 : stepsTo (atC000 [(0x0000, 0x2C)]
    { State.reset with regs := { RegFile.zero with l := 0xFF } }) 4 (fun t => t.regs.l == 0x00 && t.regs.f == 0x50 &&
    t.pc == 0xC001 && t.r == 0x01) = true := by decide

/-- V41.18 `DEC B (0x00)`. -/
theorem test_decReg_V41_18 : stepsTo (atC000 [(0x0000, 0x05)]
    { State.reset with regs := { RegFile.zero with b := 0x00, f := 0x01 } }) 4 (fun t => t.regs.b == 0xFF &&
    t.regs.f == 0xBB && t.pc == 0xC001 && t.r == 0x01) = true := by decide

/-- V41.19 `DEC C (0x80)`. -/
theorem test_decReg_V41_19 : stepsTo (atC000 [(0x0000, 0x0D)]
    { State.reset with regs := { RegFile.zero with c := 0x80 } }) 4 (fun t => t.regs.c == 0x7F && t.regs.f == 0x3E &&
    t.pc == 0xC001 && t.r == 0x01) = true := by decide

/-- V41.22 `DEC (IY-1)`. -/
theorem test_decMemIy_V41_22 : stepsTo (atC000 [(0x0000, 0xFD), (0x0001, 0x35), (0x0002, 0xFF), (0x0100, 0x01)]
    { State.reset with iy := 0xC101 }) 23 (fun t => t.regs.f == 0x42 && t.pc == 0xC003 && t.r == 0x02 &&
    t.readByte 0xC100 == 0x00) = true := by decide

/-- V41.26 `DAA (A=0x9A, N=0)`. -/
theorem test_daa_V41_26 : stepsTo (atC000 [(0x0000, 0x27)]
    { State.reset with regs := { RegFile.zero with a := 0x9A } }) 4 (fun t => t.regs.a == 0x00 && t.regs.f == 0x55 &&
    t.pc == 0xC001 && t.r == 0x01) = true := by decide

/-- V41.27 `CPL`. -/
theorem test_cpl_V41_27 : stepsTo (atC000 [(0x0000, 0x2F)]
    { State.reset with regs := { RegFile.zero with a := 0x5A } }) 4 (fun t => t.regs.a == 0xA5 && t.regs.f == 0x32 &&
    t.pc == 0xC001 && t.r == 0x01) = true := by decide

/-- V41.28 `NEG (0x80)`. -/
theorem test_neg_V41_28 : stepsTo (atC000 [(0x0000, 0xED), (0x0001, 0x44)]
    { State.reset with regs := { RegFile.zero with a := 0x80 } }) 8 (fun t => t.regs.f == 0x87 && t.pc == 0xC002 &&
    t.r == 0x02) = true := by decide

/-- V41.29 `NEG (0x00)`. -/
theorem test_neg_V41_29 : stepsTo (atC000 [(0x0000, 0xED), (0x0001, 0x44)]
    { State.reset with regs := { RegFile.zero with a := 0x00 } }) 8 (fun t => t.regs.f == 0x42 && t.pc == 0xC002 &&
    t.r == 0x02) = true := by decide

/-- V41.31 `SCF`. -/
theorem test_scf_V41_31 : stepsTo (atC000 [(0x0000, 0x37)]
    { State.reset with regs := { RegFile.zero with f := 0x00 } }) 4 (fun t => t.pc == 0xC001 && t.r == 0x01) = true :=
    by decide

/-- V41.32 `CCF`. -/
theorem test_ccf_V41_32 : stepsTo (atC000 [(0x0000, 0x3F)]
    { State.reset with regs := { RegFile.zero with f := 0x01 } }) 4 (fun t => t.pc == 0xC001 && t.r == 0x01) = true :=
    by decide

/-- V42.01 `ADD HL,BC (half carry from bit 11)`. -/
theorem test_addHlPair_V42_01 : stepsTo (atC000 [(0x0000, 0x09)]
    { State.reset with regs := { RegFile.zero with b := 0x00, c := 0x01, h := 0x0F, l := 0xFF } }) 11 (fun t =>
    t.regs.h == 0x10 && t.regs.l == 0x00 && t.regs.f == 0x10 && t.pc == 0xC001 && t.r == 0x01) = true := by decide

/-- V42.02 `ADD HL,DE (carry; Z, S, P/V kept)`. -/
theorem test_addHlPair_V42_02 : stepsTo (atC000 [(0x0000, 0x19)]
    { State.reset with regs := { RegFile.zero with d := 0x00, e := 0x01, f := 0xC4, h := 0xFF, l := 0xFF } }) 11 (fun
    t => t.regs.h == 0x00 && t.regs.l == 0x00 && t.regs.f == 0xD5 && t.pc == 0xC001 && t.r == 0x01) = true := by
    decide

/-- V42.05 `ADC HL,BC (0x7FFF+0+1)`. -/
theorem test_adcHlPair_V42_05 : stepsTo (atC000 [(0x0000, 0xED), (0x0001, 0x4A)]
    { State.reset with regs := { RegFile.zero with b := 0x00, c := 0x00, f := 0x01, h := 0x7F, l := 0xFF } }) 15 (fun
    t => t.regs.h == 0x80 && t.regs.l == 0x00 && t.regs.f == 0x94 && t.pc == 0xC002 && t.r == 0x02) = true := by
    decide

/-- V42.06 `ADC HL,DE (zero)`. -/
theorem test_adcHlPair_V42_06 : stepsTo (atC000 [(0x0000, 0xED), (0x0001, 0x5A)]
    { State.reset with regs := { RegFile.zero with d := 0x00, e := 0x01, h := 0xFF, l := 0xFF } }) 15 (fun t =>
    t.regs.h == 0x00 && t.regs.l == 0x00 && t.regs.f == 0x51 && t.pc == 0xC002 && t.r == 0x02) = true := by decide

/-- V42.07 `SBC HL,DE (borrow)`. -/
theorem test_sbcHlPair_V42_07 : stepsTo (atC000 [(0x0000, 0xED), (0x0001, 0x52)]
    { State.reset with regs := { RegFile.zero with d := 0x00, e := 0x01, h := 0x00, l := 0x00 } }) 15 (fun t =>
    t.regs.h == 0xFF && t.regs.l == 0xFF && t.regs.f == 0xBB && t.pc == 0xC002 && t.r == 0x02) = true := by decide

/-- V42.08 `SBC HL,HL (C=0)`. -/
theorem test_sbcHlPair_V42_08 : stepsTo (atC000 [(0x0000, 0xED), (0x0001, 0x62)]
    { State.reset with regs := { RegFile.zero with h := 0x12, l := 0x34 } }) 15 (fun t => t.regs.h == 0x00 &&
    t.regs.l == 0x00 && t.regs.f == 0x42 && t.pc == 0xC002 && t.r == 0x02) = true := by decide

/-- V42.10 `ADD IX,IX`. -/
theorem test_addIxPair_V42_10 : stepsTo (atC000 [(0x0000, 0xDD), (0x0001, 0x29)] { State.reset with ix := 0x8000 }) 15
    (fun t => t.regs.f == 0x01 && t.ix == 0x0000 && t.pc == 0xC002 && t.r == 0x02) = true := by decide

/-- V42.11 `ADD IY,DE`. -/
theorem test_addIyPair_V42_11 : stepsTo (atC000 [(0x0000, 0xFD), (0x0001, 0x19)]
    { State.reset with regs := { RegFile.zero with d := 0x0F, e := 0xFF }, iy := 0x1000 }) 15 (fun t =>
    t.regs.f == 0x08 && t.iy == 0x1FFF && t.pc == 0xC002 && t.r == 0x02) = true := by decide

/-- V42.12 `INC BC (wrap, flags kept)`. -/
theorem test_incPair_V42_12 : stepsTo (atC000 [(0x0000, 0x03)]
    { State.reset with regs := { RegFile.zero with b := 0xFF, c := 0xFF, f := 0xFF } }) 6 (fun t => t.regs.b == 0x00
    && t.regs.c == 0x00 && t.regs.f == 0xFF && t.pc == 0xC001 && t.r == 0x01) = true := by decide

/-- V42.13 `DEC SP`. -/
theorem test_decPair_V42_13 : stepsTo (atC000 [(0x0000, 0x3B)] { State.reset with sp := 0x0000 }) 6 (fun t =>
    t.regs.f == 0x00 && t.sp == 0xFFFF && t.pc == 0xC001 && t.r == 0x01) = true := by decide

/-- V42.14 `INC IX`. -/
theorem test_incIx_V42_14 : stepsTo (atC000 [(0x0000, 0xDD), (0x0001, 0x23)] { State.reset with ix := 0x00FF }) 10
    (fun t => t.regs.f == 0x00 && t.ix == 0x0100 && t.pc == 0xC002 && t.r == 0x02) = true := by decide

/-- V43.01 `RLCA`. -/
theorem test_rlca_V43_01 : stepsTo (atC000 [(0x0000, 0x07)]
    { State.reset with regs := { RegFile.zero with a := 0x81 } }) 4 (fun t => t.regs.a == 0x03 && t.regs.f == 0x01 &&
    t.pc == 0xC001 && t.r == 0x01) = true := by decide

/-- V43.02 `RRCA`. -/
theorem test_rrca_V43_02 : stepsTo (atC000 [(0x0000, 0x0F)]
    { State.reset with regs := { RegFile.zero with a := 0x01 } }) 4 (fun t => t.regs.a == 0x80 && t.regs.f == 0x01 &&
    t.pc == 0xC001 && t.r == 0x01) = true := by decide

/-- V43.03 `RLA (C=0)`. -/
theorem test_rla_V43_03 : stepsTo (atC000 [(0x0000, 0x17)]
    { State.reset with regs := { RegFile.zero with a := 0x80, f := 0xC4 } }) 4 (fun t => t.regs.a == 0x00 &&
    t.regs.f == 0xC5 && t.pc == 0xC001 && t.r == 0x01) = true := by decide

/-- V43.04 `RRA (C=1)`. -/
theorem test_rra_V43_04 : stepsTo (atC000 [(0x0000, 0x1F)]
    { State.reset with regs := { RegFile.zero with a := 0x01, f := 0x01 } }) 4 (fun t => t.regs.a == 0x80 &&
    t.regs.f == 0x01 && t.pc == 0xC001 && t.r == 0x01) = true := by decide

/-- V43.05 `RLC B`. -/
theorem test_rlcReg_V43_05 : stepsTo (atC000 [(0x0000, 0xCB), (0x0001, 0x00)]
    { State.reset with regs := { RegFile.zero with b := 0x80 } }) 8 (fun t => t.regs.b == 0x01 && t.regs.f == 0x01 &&
    t.pc == 0xC002 && t.r == 0x02) = true := by decide

/-- V43.06 `RRC C`. -/
theorem test_rrcReg_V43_06 : stepsTo (atC000 [(0x0000, 0xCB), (0x0001, 0x09)]
    { State.reset with regs := { RegFile.zero with c := 0x01 } }) 8 (fun t => t.regs.c == 0x80 && t.regs.f == 0x81 &&
    t.pc == 0xC002 && t.r == 0x02) = true := by decide

/-- V43.07 `RL D (C=1)`. -/
theorem test_rlReg_V43_07 : stepsTo (atC000 [(0x0000, 0xCB), (0x0001, 0x12)]
    { State.reset with regs := { RegFile.zero with d := 0x80, f := 0x01 } }) 8 (fun t => t.regs.d == 0x01 &&
    t.regs.f == 0x01 && t.pc == 0xC002 && t.r == 0x02) = true := by decide

/-- V43.08 `RR (HL)`. -/
theorem test_rrReg_V43_08 : stepsTo (atC000 [(0x0000, 0xCB), (0x0001, 0x1E), (0x0100, 0x01)]
    { State.reset with regs := { RegFile.zero with h := 0xC1, l := 0x00 } }) 15 (fun t => t.regs.f == 0x45 &&
    t.pc == 0xC002 && t.r == 0x02 && t.readByte 0xC100 == 0x00) = true := by decide

/-- V43.09 `SLA A`. -/
theorem test_slaReg_V43_09 : stepsTo (atC000 [(0x0000, 0xCB), (0x0001, 0x27)]
    { State.reset with regs := { RegFile.zero with a := 0x80 } }) 8 (fun t => t.regs.a == 0x00 && t.regs.f == 0x45 &&
    t.pc == 0xC002 && t.r == 0x02) = true := by decide

/-- V43.10 `SRA E`. -/
theorem test_sraReg_V43_10 : stepsTo (atC000 [(0x0000, 0xCB), (0x0001, 0x2B)]
    { State.reset with regs := { RegFile.zero with e := 0x81 } }) 8 (fun t => t.regs.e == 0xC0 && t.regs.f == 0x85 &&
    t.pc == 0xC002 && t.r == 0x02) = true := by decide

/-- V43.11 `SRL H`. -/
theorem test_srlReg_V43_11 : stepsTo (atC000 [(0x0000, 0xCB), (0x0001, 0x3C)]
    { State.reset with regs := { RegFile.zero with h := 0x01 } }) 8 (fun t => t.regs.h == 0x00 && t.regs.f == 0x45 &&
    t.pc == 0xC002 && t.r == 0x02) = true := by decide

/-- V43.12 `RLC (IX+2)`. -/
theorem test_rlcMemIx_V43_12 : stepsTo (atC000 [(0x0000, 0xDD), (0x0001, 0xCB), (0x0002, 0x02), (0x0003, 0x06),
    (0x0100, 0x88)] { State.reset with ix := 0xC0FE }) 23 (fun t => t.regs.f == 0x05 && t.pc == 0xC004 && t.r == 0x02
    && t.readByte 0xC100 == 0x11) = true := by decide

/-- V43.13 `SRL (IY-128)`. -/
theorem test_srlMemIy_V43_13 : stepsTo (atC000 [(0x0000, 0xFD), (0x0001, 0xCB), (0x0002, 0x80), (0x0003, 0x3E),
    (0x0100, 0xFF)] { State.reset with iy := 0xC180 }) 23 (fun t => t.regs.f == 0x29 && t.pc == 0xC004 && t.r == 0x02
    && t.readByte 0xC100 == 0x7F) = true := by decide

/-- V43.14 `RLD`. -/
theorem test_rld_V43_14 : stepsTo (atC000 [(0x0000, 0xED), (0x0001, 0x6F), (0x0100, 0x34)]
    { State.reset with regs := { RegFile.zero with a := 0x12, h := 0xC1, l := 0x00 } }) 18 (fun t => t.regs.a == 0x13
    && t.regs.f == 0x00 && t.pc == 0xC002 && t.r == 0x02 && t.readByte 0xC100 == 0x42) = true := by decide

/-- V43.15 `RRD`. -/
theorem test_rrd_V43_15 : stepsTo (atC000 [(0x0000, 0xED), (0x0001, 0x67), (0x0100, 0x34)]
    { State.reset with regs := { RegFile.zero with a := 0x12, h := 0xC1, l := 0x00 } }) 18 (fun t => t.regs.a == 0x14
    && t.regs.f == 0x04 && t.pc == 0xC002 && t.r == 0x02 && t.readByte 0xC100 == 0x23) = true := by decide

/-- V43.16 `RLD (A=0x00, (HL)=0x0F)`. -/
theorem test_rld_V43_16 : stepsTo (atC000 [(0x0000, 0xED), (0x0001, 0x6F), (0x0100, 0x0F)]
    { State.reset with regs := { RegFile.zero with a := 0x00, f := 0x01, h := 0xC1, l := 0x00 } }) 18 (fun t =>
    t.regs.f == 0x45 && t.pc == 0xC002 && t.r == 0x02 && t.readByte 0xC100 == 0xF0) = true := by decide

/-- V43.17 `SLL B (undocumented)`. -/
theorem test_fatal_V43_17 : faults (atC000 [(0x0000, 0xCB), (0x0001, 0x30)] State.reset) ⟨0xC000, [0xCB, 0x30]⟩ = true
    := by decide

/-- V44.01 `BIT 7,A`. -/
theorem test_bitReg_V44_01 : stepsTo (atC000 [(0x0000, 0xCB), (0x0001, 0x7F)]
    { State.reset with regs := { RegFile.zero with a := 0x80, f := 0x01 } }) 8 (fun t => t.regs.f == 0x91 &&
    t.pc == 0xC002 && t.r == 0x02) = true := by decide

/-- V44.02 `BIT 0,B`. -/
theorem test_bitReg_V44_02 : stepsTo (atC000 [(0x0000, 0xCB), (0x0001, 0x40)]
    { State.reset with regs := { RegFile.zero with b := 0xFE } }) 8 (fun t => t.regs.f == 0x7C && t.pc == 0xC002 &&
    t.r == 0x02) = true := by decide

/-- V44.04 `BIT 1,(IX+10h)`. -/
theorem test_bitMemIx_V44_04 : stepsTo (atC000 [(0x0000, 0xDD), (0x0001, 0xCB), (0x0002, 0x10), (0x0003, 0x4E),
    (0x0108, 0x00)] { State.reset with ix := 0xC0F8 }) 20 (fun t => t.regs.f == 0x54 && t.pc == 0xC004 && t.r == 0x02)
    = true := by decide

/-- V44.05 `BIT 7,(IY+0) (ea 0xE800)`. -/
theorem test_bitMemIy_V44_05 : stepsTo (atC000 [(0x0000, 0xFD), (0x0001, 0xCB), (0x0002, 0x00), (0x0003, 0x7E),
    (0x0800, 0x80)] { State.reset with iy := 0xE800 }) 20 (fun t => t.regs.f == 0xB8 && t.pc == 0xC004 && t.r == 0x02)
    = true := by decide

/-- V44.06 `SET 0,A`. -/
theorem test_setReg_V44_06 : stepsTo (atC000 [(0x0000, 0xCB), (0x0001, 0xC7)]
    { State.reset with regs := { RegFile.zero with a := 0x00 } }) 8 (fun t => t.regs.a == 0x01 && t.regs.f == 0x00 &&
    t.pc == 0xC002 && t.r == 0x02) = true := by decide

/-- V44.07 `SET 7,(HL)`. -/
theorem test_setReg_V44_07 : stepsTo (atC000 [(0x0000, 0xCB), (0x0001, 0xFE), (0x0100, 0x00)]
    { State.reset with regs := { RegFile.zero with h := 0xC1, l := 0x00 } }) 15 (fun t => t.regs.f == 0x00 &&
    t.pc == 0xC002 && t.r == 0x02 && t.readByte 0xC100 == 0x80) = true := by decide

/-- V44.10 `RES 0,B`. -/
theorem test_resReg_V44_10 : stepsTo (atC000 [(0x0000, 0xCB), (0x0001, 0x80)]
    { State.reset with regs := { RegFile.zero with b := 0xFF } }) 8 (fun t => t.regs.b == 0xFE && t.regs.f == 0x00 &&
    t.pc == 0xC002 && t.r == 0x02) = true := by decide

/-- V44.11 `RES 7,(IX-1)`. -/
theorem test_resMemIx_V44_11 : stepsTo (atC000 [(0x0000, 0xDD), (0x0001, 0xCB), (0x0002, 0xFF), (0x0003, 0xBE),
    (0x0100, 0xFF)] { State.reset with ix := 0xC101 }) 23 (fun t => t.regs.f == 0x00 && t.pc == 0xC004 && t.r == 0x02
    && t.readByte 0xC100 == 0x7F) = true := by decide

/-- V44.12 `DDCB with undocumented final byte 0x07`. -/
theorem test_fatal_V44_12 : faults (atC000 [(0x0000, 0xDD), (0x0001, 0xCB), (0x0002, 0x00), (0x0003, 0x07)]
    { State.reset with ix := 0xC100 }) ⟨0xC000, [0xDD, 0xCB, 0x00, 0x07]⟩ = true := by decide

/-- V45.01 `LDI (BC 2->1)`. -/
theorem test_ldi_V45_01 : stepsTo (atC000 [(0x0000, 0xED), (0x0001, 0xA0), (0x0100, 0x55)]
    { State.reset with regs := { RegFile.zero with b := 0x00, c := 0x02, d := 0xC2, e := 0x00, h := 0xC1, l := 0x00 } })
    16 (fun t => t.regs.l == 0x01 && t.regs.e == 0x01 && t.regs.c == 0x01 && t.regs.f == 0x04 && t.pc == 0xC002 &&
    t.r == 0x02 && t.readByte 0xC200 == 0x55) = true := by decide

/-- V45.02 `LDI (BC 1->0)`. -/
theorem test_ldi_V45_02 : stepsTo (atC000 [(0x0000, 0xED), (0x0001, 0xA0), (0x0100, 0x28)]
    { State.reset with regs := { RegFile.zero with a := 0x00, b := 0x00, c := 0x01, d := 0xC2, e := 0x00, h := 0xC1, l := 0x00 } })
    16 (fun t => t.regs.l == 0x01 && t.regs.e == 0x01 && t.regs.c == 0x00 && t.regs.f == 0x08 && t.pc == 0xC002 &&
    t.r == 0x02 && t.readByte 0xC200 == 0x28) = true := by decide

/-- V45.04 `LDIR, first of 3 steps`. -/
theorem test_ldir_V45_04 : stepsTo (atC000 [(0x0000, 0xED), (0x0001, 0xB0), (0x0100, 0x01), (0x0101, 0x02), (0x0102,
    0x03)]
    { State.reset with regs := { RegFile.zero with b := 0x00, c := 0x03, d := 0xC2, e := 0x00, h := 0xC1, l := 0x00 } })
    21 (fun t => t.regs.l == 0x01 && t.regs.e == 0x01 && t.regs.c == 0x02 && t.pc == 0xC000 && t.r == 0x02 &&
    t.readByte 0xC200 == 0x01) = true := by decide

/-- V45.05 `LDD`. -/
theorem test_ldd_V45_05 : stepsTo (atC000 [(0x0000, 0xED), (0x0001, 0xA8), (0x0102, 0x77)]
    { State.reset with regs := { RegFile.zero with b := 0x00, c := 0x01, d := 0xC2, e := 0x02, h := 0xC1, l := 0x02 } })
    16 (fun t => t.regs.l == 0x01 && t.regs.e == 0x01 && t.regs.c == 0x00 && t.regs.f == 0x20 && t.pc == 0xC002 &&
    t.r == 0x02 && t.readByte 0xC202 == 0x77) = true := by decide

/-- V45.08 `CPI (match)`. -/
theorem test_cpi_V45_08 : stepsTo (atC000 [(0x0000, 0xED), (0x0001, 0xA1), (0x0100, 0x42)]
    { State.reset with regs := { RegFile.zero with a := 0x42, b := 0x00, c := 0x05, h := 0xC1, l := 0x00 } }) 16 (fun
    t => t.regs.l == 0x01 && t.regs.c == 0x04 && t.regs.f == 0x46 && t.pc == 0xC002 && t.r == 0x02) = true := by
    decide

/-- V45.09 `CPI (BC 1->0, no match)`. -/
theorem test_cpi_V45_09 : stepsTo (atC000 [(0x0000, 0xED), (0x0001, 0xA1), (0x0100, 0x01)]
    { State.reset with regs := { RegFile.zero with a := 0x10, b := 0x00, c := 0x01, f := 0x01, h := 0xC1, l := 0x00 } })
    16 (fun t => t.regs.l == 0x01 && t.regs.c == 0x00 && t.regs.f == 0x3B && t.pc == 0xC002 && t.r == 0x02) = true :=
    by decide

/-- V45.11 `CPD`. -/
theorem test_cpd_V45_11 : stepsTo (atC000 [(0x0000, 0xED), (0x0001, 0xA9), (0x0100, 0x01)]
    { State.reset with regs := { RegFile.zero with a := 0x00, b := 0x00, c := 0x02, h := 0xC1, l := 0x00 } }) 16 (fun
    t => t.regs.h == 0xC0 && t.regs.l == 0xFF && t.regs.c == 0x01 && t.regs.f == 0xBE && t.pc == 0xC002 &&
    t.r == 0x02) = true := by decide

/-- V46.01 `JP nn`. -/
theorem test_jp_V46_01 : stepsTo (atC000 [(0x0000, 0xC3), (0x0001, 0x34), (0x0002, 0x12)] State.reset) 10 (fun t =>
    t.regs.f == 0x00 && t.pc == 0x1234 && t.r == 0x01) = true := by decide

/-- V46.02 `JP NZ,nn (taken)`. -/
theorem test_jpCond_V46_02 : stepsTo (atC000 [(0x0000, 0xC2), (0x0001, 0x34), (0x0002, 0x12)]
    { State.reset with regs := { RegFile.zero with f := 0x00 } }) 10 (fun t => t.regs.f == 0x00 && t.pc == 0x1234 &&
    t.r == 0x01) = true := by decide

/-- V46.03 `JP Z,nn (not taken)`. -/
theorem test_jpCond_V46_03 : stepsTo (atC000 [(0x0000, 0xCA), (0x0001, 0x34), (0x0002, 0x12)]
    { State.reset with regs := { RegFile.zero with f := 0x00 } }) 10 (fun t => t.regs.f == 0x00 && t.pc == 0xC003 &&
    t.r == 0x01) = true := by decide

/-- V46.06 `JR $`. -/
theorem test_jr_V46_06 : stepsTo (atC000 [(0x0000, 0x18), (0x0001, 0xFE)] State.reset) 12 (fun t => t.regs.f == 0x00
    && t.pc == 0xC000 && t.r == 0x01) = true := by decide

/-- V46.07 `JR $+129`. -/
theorem test_jr_V46_07 : stepsTo (atC000 [(0x0000, 0x18), (0x0001, 0x7F)] State.reset) 12 (fun t => t.regs.f == 0x00
    && t.pc == 0xC081 && t.r == 0x01) = true := by decide

/-- V46.08 `JR NZ,$-126`. -/
theorem test_jrCond_V46_08 : stepsTo (atC000 [(0x0000, 0x20), (0x0001, 0x80)]
    { State.reset with regs := { RegFile.zero with f := 0x00 } }) 12 (fun t => t.regs.f == 0x00 && t.pc == 0xBF82 &&
    t.r == 0x01) = true := by decide

/-- V46.09 `JR C (not taken)`. -/
theorem test_jrCond_V46_09 : stepsTo (atC000 [(0x0000, 0x38), (0x0001, 0x05)]
    { State.reset with regs := { RegFile.zero with f := 0x00 } }) 7 (fun t => t.regs.f == 0x00 && t.pc == 0xC002 &&
    t.r == 0x01) = true := by decide

/-- V46.10 `JP (HL)`. -/
theorem test_jpHl_V46_10 : stepsTo (atC000 [(0x0000, 0xE9)]
    { State.reset with regs := { RegFile.zero with h := 0x40, l := 0x00 } }) 4 (fun t => t.regs.f == 0x00 &&
    t.pc == 0x4000 && t.r == 0x01) = true := by decide

/-- V46.11 `JP (IY)`. -/
theorem test_jpIy_V46_11 : stepsTo (atC000 [(0x0000, 0xFD), (0x0001, 0xE9)] { State.reset with iy := 0x0038 }) 8 (fun
    t => t.regs.f == 0x00 && t.pc == 0x0038 && t.r == 0x02) = true := by decide

/-- V46.12 `DJNZ $ (B=2)`. -/
theorem test_djnz_V46_12 : stepsTo (atC000 [(0x0000, 0x10), (0x0001, 0xFE)]
    { State.reset with regs := { RegFile.zero with b := 0x02 } }) 13 (fun t => t.regs.b == 0x01 && t.regs.f == 0x00 &&
    t.pc == 0xC000 && t.r == 0x01) = true := by decide

/-- V46.13 `DJNZ $ (B=1)`. -/
theorem test_djnz_V46_13 : stepsTo (atC000 [(0x0000, 0x10), (0x0001, 0xFE)]
    { State.reset with regs := { RegFile.zero with b := 0x01 } }) 8 (fun t => t.regs.b == 0x00 && t.regs.f == 0x00 &&
    t.pc == 0xC002 && t.r == 0x01) = true := by decide

/-- V46.15 `CALL nn`. -/
theorem test_call_V46_15 : stepsTo (atC000 [(0x0000, 0xCD), (0x0001, 0x00), (0x0002, 0x40)]
    { State.reset with sp := 0xE000 }) 17 (fun t => t.regs.f == 0x00 && t.sp == 0xDFFE && t.pc == 0x4000 &&
    t.r == 0x01 && t.readByte 0xDFFE == 0x03 && t.readByte 0xDFFF == 0xC0) = true := by decide

/-- V46.16 `CALL NC,nn (not taken)`. -/
theorem test_callCond_V46_16 : stepsTo (atC000 [(0x0000, 0xD4), (0x0001, 0x00), (0x0002, 0x40)]
    { State.reset with regs := { RegFile.zero with f := 0x01 }, sp := 0xE000 }) 10 (fun t => t.regs.f == 0x01 &&
    t.pc == 0xC003 && t.r == 0x01) = true := by decide

/-- V46.17 `CALL nn with SP=0x0001`. -/
theorem test_call_V46_17 : stepsTo (atC000 [(0x0000, 0xCD), (0x0001, 0x00), (0x0002, 0x40)]
    { State.reset with sp := 0x0001 }) 17 (fun t => t.regs.f == 0x00 && t.sp == 0xFFFF && t.pc == 0x4000 &&
    t.r == 0x01 && t.readByte 0xDFFF == 0x03 && t.slots == ⟨0, 1, 3⟩) = true := by decide

/-- V46.18 `RET`. -/
theorem test_ret_V46_18 : stepsTo (atC000 [(0x0000, 0xC9), (0x1FFE, 0x34), (0x1FFF, 0x12)]
    { State.reset with sp := 0xDFFE }) 10 (fun t => t.regs.f == 0x00 && t.sp == 0xE000 && t.pc == 0x1234 &&
    t.r == 0x01) = true := by decide

/-- V46.19 `RET Z (taken)`. -/
theorem test_retCond_V46_19 : stepsTo (atC000 [(0x0000, 0xC8), (0x1FFE, 0x34), (0x1FFF, 0x12)]
    { State.reset with regs := { RegFile.zero with f := 0x40 }, sp := 0xDFFE }) 11 (fun t => t.regs.f == 0x40 &&
    t.sp == 0xE000 && t.pc == 0x1234 && t.r == 0x01) = true := by decide

/-- V46.20 `RET Z (not taken)`. -/
theorem test_retCond_V46_20 : stepsTo (atC000 [(0x0000, 0xC8), (0x1FFE, 0x34), (0x1FFF, 0x12)]
    { State.reset with regs := { RegFile.zero with f := 0x00 }, sp := 0xDFFE }) 5 (fun t => t.regs.f == 0x00 &&
    t.pc == 0xC001 && t.r == 0x01) = true := by decide

/-- V46.21 `RETI`. -/
theorem test_reti_V46_21 : stepsTo (atC000 [(0x0000, 0xED), (0x0001, 0x4D), (0x1FFE, 0x34), (0x1FFF, 0x12)]
    { State.reset with sp := 0xDFFE, iff1 := false, iff2 := true }) 14 (fun t => t.regs.f == 0x00 && t.sp == 0xE000 &&
    t.iff1 == true && t.pc == 0x1234 && t.r == 0x02) = true := by decide

/-- V46.22 `RETN`. -/
theorem test_retn_V46_22 : stepsTo (atC000 [(0x0000, 0xED), (0x0001, 0x45), (0x1FFE, 0x34), (0x1FFF, 0x12)]
    { State.reset with sp := 0xDFFE, iff1 := false, iff2 := false }) 14 (fun t => t.regs.f == 0x00 && t.sp == 0xE000
    && t.pc == 0x1234 && t.r == 0x02) = true := by decide

/-- V46.23 `RST 38h`. -/
theorem test_rst_V46_23 : stepsTo (atC000 [(0x0000, 0xFF)] { State.reset with sp := 0xE000 }) 11 (fun t =>
    t.regs.f == 0x00 && t.sp == 0xDFFE && t.pc == 0x0038 && t.r == 0x01 && t.readByte 0xDFFE == 0x01 &&
    t.readByte 0xDFFF == 0xC0) = true := by decide

/-- V46.24 `RST 08h`. -/
theorem test_rst_V46_24 : stepsTo (atC000 [(0x0000, 0xCF)] { State.reset with sp := 0xE000 }) 11 (fun t =>
    t.regs.f == 0x00 && t.sp == 0xDFFE && t.pc == 0x0008 && t.r == 0x01 && t.readByte 0xDFFE == 0x01 &&
    t.readByte 0xDFFF == 0xC0) = true := by decide

/-- V47.01 `PUSH BC`. -/
theorem test_pushPair_V47_01 : stepsTo (atC000 [(0x0000, 0xC5)]
    { State.reset with regs := { RegFile.zero with b := 0x12, c := 0x34 }, sp := 0xE000 }) 11 (fun t =>
    t.regs.f == 0x00 && t.sp == 0xDFFE && t.pc == 0xC001 && t.r == 0x01 && t.readByte 0xDFFE == 0x34 &&
    t.readByte 0xDFFF == 0x12) = true := by decide

/-- V47.02 `PUSH AF`. -/
theorem test_pushPair_V47_02 : stepsTo (atC000 [(0x0000, 0xF5)]
    { State.reset with regs := { RegFile.zero with a := 0x12, f := 0xD7 }, sp := 0xE000 }) 11 (fun t =>
    t.regs.f == 0xD7 && t.sp == 0xDFFE && t.pc == 0xC001 && t.r == 0x01 && t.readByte 0xDFFE == 0xD7 &&
    t.readByte 0xDFFF == 0x12) = true := by decide

/-- V47.03 `POP AF`. -/
theorem test_popPair_V47_03 : stepsTo (atC000 [(0x0000, 0xF1), (0x1FFE, 0xFF), (0x1FFF, 0x00)]
    { State.reset with sp := 0xDFFE }) 10 (fun t => t.regs.f == 0xFF && t.sp == 0xE000 && t.pc == 0xC001 &&
    t.r == 0x01) = true := by decide

/-- V47.04 `POP BC at SP=0xFFFF`. -/
theorem test_popPair_V47_04 : stepsTo (atC000 [(0x0000, 0xC1), (0x1FFF, 0x00)] { State.reset with sp := 0xFFFF }) 10
    (fun t => t.regs.b == 0xFF && t.regs.f == 0x00 && t.sp == 0x0001 && t.pc == 0xC001 && t.r == 0x01) = true := by
    decide

/-- V47.05 `PUSH IX`. -/
theorem test_pushIx_V47_05 : stepsTo (atC000 [(0x0000, 0xDD), (0x0001, 0xE5)]
    { State.reset with sp := 0xE000, ix := 0xBEEF }) 15 (fun t => t.regs.f == 0x00 && t.sp == 0xDFFE && t.pc == 0xC002
    && t.r == 0x02 && t.readByte 0xDFFE == 0xEF && t.readByte 0xDFFF == 0xBE) = true := by decide

/-- V47.06 `POP IY`. -/
theorem test_popIy_V47_06 : stepsTo (atC000 [(0x0000, 0xFD), (0x0001, 0xE1), (0x1FFE, 0xEF), (0x1FFF, 0xBE)]
    { State.reset with sp := 0xDFFE }) 14 (fun t => t.regs.f == 0x00 && t.sp == 0xE000 && t.pc == 0xC002 &&
    t.iy == 0xBEEF && t.r == 0x02) = true := by decide

/-- V47.08 `EX DE,HL`. -/
theorem test_exDeHl_V47_08 : stepsTo (atC000 [(0x0000, 0xEB)]
    { State.reset with regs := { RegFile.zero with d := 0x11, e := 0x11, h := 0x22, l := 0x22 } }) 4 (fun t =>
    t.regs.d == 0x22 && t.regs.e == 0x22 && t.regs.h == 0x11 && t.regs.l == 0x11 && t.regs.f == 0x00 && t.pc == 0xC001
    && t.r == 0x01) = true := by decide

/-- V47.09 `EX AF,AF'`. -/
theorem test_exAfAf_V47_09 : stepsTo (atC000 [(0x0000, 0x08)]
    { State.reset with regs := { RegFile.zero with a := 0x01, f := 0x02 }, shadow := { RegFile.zero with a := 0x03, f := 0x04 } })
    4 (fun t => t.regs.a == 0x03 && t.regs.f == 0x04 && t.shadow.a == 0x01 && t.shadow.f == 0x02 && t.pc == 0xC001 &&
    t.r == 0x01) = true := by decide

/-- V47.10 `EXX`. -/
theorem test_exx_V47_10 : stepsTo (atC000 [(0x0000, 0xD9)]
    { State.reset with regs := { RegFile.zero with b := 0x11, c := 0x11, d := 0x22, e := 0x22, h := 0x33, l := 0x33 }, shadow := { RegFile.zero with b := 0x44, c := 0x44, d := 0x55, e := 0x55, h := 0x66, l := 0x66 } })
    4 (fun t => t.regs.b == 0x44 && t.regs.c == 0x44 && t.regs.d == 0x55 && t.regs.e == 0x55 && t.regs.h == 0x66 &&
    t.regs.l == 0x66 && t.regs.f == 0x00 && t.shadow.b == 0x11 && t.shadow.c == 0x11 && t.shadow.d == 0x22 &&
    t.shadow.e == 0x22 && t.shadow.h == 0x33 && t.shadow.l == 0x33 && t.pc == 0xC001 && t.r == 0x01) = true := by
    decide

/-- V47.11 `EX (SP),HL`. -/
theorem test_exMemSpHl_V47_11 : stepsTo (atC000 [(0x0000, 0xE3), (0x1FFE, 0x78), (0x1FFF, 0x56)]
    { State.reset with regs := { RegFile.zero with h := 0x12, l := 0x34 }, sp := 0xDFFE }) 19 (fun t =>
    t.regs.h == 0x56 && t.regs.l == 0x78 && t.regs.f == 0x00 && t.pc == 0xC001 && t.r == 0x01 &&
    t.readByte 0xDFFE == 0x34 && t.readByte 0xDFFF == 0x12) = true := by decide

/-- V47.12 `EX (SP),IX`. -/
theorem test_exMemSpIx_V47_12 : stepsTo (atC000 [(0x0000, 0xDD), (0x0001, 0xE3), (0x1FFE, 0x78), (0x1FFF, 0x56)]
    { State.reset with sp := 0xDFFE, ix := 0x1234 }) 23 (fun t => t.regs.f == 0x00 && t.ix == 0x5678 && t.pc == 0xC002
    && t.r == 0x02 && t.readByte 0xDFFE == 0x34 && t.readByte 0xDFFF == 0x12) = true := by decide

/-- V47.13 `EX DE,HL with DD prefix`. -/
theorem test_fatal_V47_13 : faults (atC000 [(0x0000, 0xDD), (0x0001, 0xEB)] State.reset) ⟨0xC000, [0xDD, 0xEB]⟩ = true
    := by decide

/-- V48.01 `NOP`. -/
theorem test_nop_V48_01 : stepsTo (atC000 [(0x0000, 0x00)] State.reset) 4 (fun t => t.regs.f == 0x00 && t.pc == 0xC001
    && t.r == 0x01) = true := by decide

/-- V48.03 `DI`. -/
theorem test_di_V48_03 : stepsTo (atC000 [(0x0000, 0xF3)] { State.reset with iff1 := true, iff2 := true }) 4 (fun t =>
    t.regs.f == 0x00 && t.iff1 == false && t.iff2 == false && t.pc == 0xC001 && t.r == 0x01) = true := by decide

/-- V48.04 `EI`. -/
theorem test_ei_V48_04 : stepsTo (atC000 [(0x0000, 0xFB)] State.reset) 4 (fun t => t.regs.f == 0x00 && t.pc == 0xC001
    && t.r == 0x01 && t.iff1 == true && t.iff2 == true && t.eiShadow == true) = true := by decide

/-- V48.05 `IM 0`. -/
theorem test_im0_V48_05 : stepsTo (atC000 [(0x0000, 0xED), (0x0001, 0x46)] { State.reset with im := .im1 }) 8 (fun t
    => t.regs.f == 0x00 && t.im == .im0 && t.pc == 0xC002 && t.r == 0x02) = true := by decide

/-- V48.06 `IM 1`. -/
theorem test_im1_V48_06 : stepsTo (atC000 [(0x0000, 0xED), (0x0001, 0x56)] State.reset) 8 (fun t => t.regs.f == 0x00
    && t.pc == 0xC002 && t.r == 0x02 && t.im == .im1) = true := by decide

/-- V48.07 `IM 2`. -/
theorem test_im2_V48_07 : stepsTo (atC000 [(0x0000, 0xED), (0x0001, 0x5E)] State.reset) 8 (fun t => t.regs.f == 0x00
    && t.pc == 0xC002 && t.r == 0x02 && t.im == .im2) = true := by decide

/-- V48.08 `IM with undocumented code ED 4E`. -/
theorem test_fatal_V48_08 : faults (atC000 [(0x0000, 0xED), (0x0001, 0x4E)] State.reset) ⟨0xC000, [0xED, 0x4E]⟩ = true
    := by decide

/-- V49.01 `IN A,(34h), read 0x5A`. -/
theorem test_inAImm_V49_01 : stepsTo (atC000 [(0x0000, 0xDB), (0x0001, 0x34)]
    { State.reset with regs := { RegFile.zero with a := 0x12 }, ioAnswers := [0x5A] }) 11 (fun t => t.regs.a == 0x5A
    && t.regs.f == 0x00 && t.pc == 0xC002 && t.r == 0x01) = true := by decide

/-- V49.02 `IN A,(C), read 0x80`. -/
theorem test_inRegC_V49_02 : stepsTo (atC000 [(0x0000, 0xED), (0x0001, 0x78)]
    { State.reset with regs := { RegFile.zero with b := 0x00, c := 0xBF, f := 0x01 }, ioAnswers := [0x80] }) 12 (fun t
    => t.regs.a == 0x80 && t.regs.f == 0x81 && t.pc == 0xC002 && t.r == 0x02) = true := by decide

/-- V49.03 `IN E,(C), read 0x00`. -/
theorem test_inRegC_V49_03 : stepsTo (atC000 [(0x0000, 0xED), (0x0001, 0x58)]
    { State.reset with regs := { RegFile.zero with b := 0x00, c := 0xDC, e := 0x55, f := 0x01 }, ioAnswers := [0x00] })
    12 (fun t => t.regs.e == 0x00 && t.regs.f == 0x45 && t.pc == 0xC002 && t.r == 0x02) = true := by decide

/-- V49.04 `OUT (34h),A`. -/
theorem test_outImmA_V49_04 : stepsTo (atC000 [(0x0000, 0xD3), (0x0001, 0x34)]
    { State.reset with regs := { RegFile.zero with a := 0x12 } }) 11 (fun t => t.regs.f == 0x00 && t.pc == 0xC002 &&
    t.r == 0x01 && t.events == [.ioWrite 0x1234 0x12]) = true := by decide

/-- V49.05 `OUT (C),A`. -/
theorem test_outCReg_V49_05 : stepsTo (atC000 [(0x0000, 0xED), (0x0001, 0x79)]
    { State.reset with regs := { RegFile.zero with a := 0x55, b := 0x01, c := 0xBE } }) 12 (fun t => t.regs.f == 0x00
    && t.pc == 0xC002 && t.r == 0x02 && t.events == [.ioWrite 0x01BE 0x55]) = true := by decide

/-- V49.06 `INI, read 0x77`. -/
theorem test_ini_V49_06 : stepsTo (atC000 [(0x0000, 0xED), (0x0001, 0xA2)]
    { State.reset with regs := { RegFile.zero with b := 0x02, c := 0x10, h := 0xC1, l := 0x00 }, ioAnswers := [0x77] })
    16 (fun t => t.regs.b == 0x01 && t.regs.l == 0x01 && t.pc == 0xC002 && t.r == 0x02 && t.readByte 0xC100 == 0x77) =
    true := by decide

/-- V49.08 `OUTI`. -/
theorem test_outi_V49_08 : stepsTo (atC000 [(0x0000, 0xED), (0x0001, 0xA3), (0x0100, 0x99)]
    { State.reset with regs := { RegFile.zero with b := 0x02, c := 0x10, h := 0xC1, l := 0x00 } }) 16 (fun t =>
    t.regs.b == 0x01 && t.regs.l == 0x01 && t.pc == 0xC002 && t.r == 0x02 && t.events == [.ioWrite 0x0110 0x99]) =
    true := by decide

/-- V49.10 `OUTD`. -/
theorem test_outd_V49_10 : stepsTo (atC000 [(0x0000, 0xED), (0x0001, 0xAB), (0x0100, 0x99)]
    { State.reset with regs := { RegFile.zero with b := 0x01, c := 0x10, h := 0xC1, l := 0x00 } }) 16 (fun t =>
    t.regs.b == 0x00 && t.regs.h == 0xC0 && t.regs.l == 0xFF && t.pc == 0xC002 && t.r == 0x02 &&
    t.events == [.ioWrite 0x0010 0x99]) = true := by decide

/-- V49.11 `IN (C) undocumented ED 70`. -/
theorem test_fatal_V49_11 : faults (atC000 [(0x0000, 0xED), (0x0001, 0x70)] State.reset) ⟨0xC000, [0xED, 0x70]⟩ = true
    := by decide

/-- V60.01 `NMI at a boundary, IFF1=1`. -/
theorem test_interrupt_V60_01 : stepsTo (atC000 [(0x0000, 0x00)]
    { State.reset with sp := 0xE000, iff1 := true, iff2 := true, nmiPending := true }) 11 (fun t => t.regs.f == 0x00
    && t.sp == 0xDFFE && t.iff1 == false && t.pc == 0x0066 && t.r == 0x01 && t.readByte 0xDFFE == 0x00 &&
    t.readByte 0xDFFF == 0xC0) = true := by decide

/-- V60.02 `INT in IM 1`. -/
theorem test_interrupt_V60_02 : stepsTo (atC000 [(0x0000, 0x00)]
    { State.reset with sp := 0xE000, iff1 := true, iff2 := true, im := .im1, intLine := true }) 13 (fun t =>
    t.regs.f == 0x00 && t.sp == 0xDFFE && t.iff1 == false && t.iff2 == false && t.pc == 0x0038 && t.r == 0x01 &&
    t.readByte 0xDFFE == 0x00 && t.readByte 0xDFFF == 0xC0) = true := by decide

/-- V60.03 `INT in IM 2, I=0xC3, bus byte 0xFF`. -/
theorem test_interrupt_V60_03 : stepsTo (atC000 [(0x0000, 0x00), (0x03FF, 0x00), (0x0400, 0x90)]
    { State.reset with sp := 0xE000, iff1 := true, iff2 := true, im := .im2, i := 0xC3, intLine := true }) 19 (fun t
    => t.regs.f == 0x00 && t.sp == 0xDFFE && t.iff1 == false && t.iff2 == false && t.pc == 0x9000 && t.r == 0x01 &&
    t.readByte 0xDFFE == 0x00 && t.readByte 0xDFFF == 0xC0) = true := by decide

/-- V60.04 `INT in IM 0, bus byte 0xFF (RST 38h)`. -/
theorem test_interrupt_V60_04 : stepsTo (atC000 [(0x0000, 0x00)]
    { State.reset with sp := 0xE000, iff1 := true, iff2 := true, im := .im0, intLine := true }) 13 (fun t =>
    t.regs.f == 0x00 && t.sp == 0xDFFE && t.iff1 == false && t.iff2 == false && t.pc == 0x0038 && t.r == 0x01 &&
    t.readByte 0xDFFE == 0x00 && t.readByte 0xDFFF == 0xC0) = true := by decide

/-- V60.05 `INT in IM 0, bus byte 0x00`. -/
theorem test_interrupt_V60_05 : faults (atC000 [(0x0000, 0x00)]
    { State.reset with sp := 0xE000, iff1 := true, iff2 := true, im := .im0, intLine := true, busByte := 0x00 })
    ⟨0xC000, [0x00]⟩ = true := by decide

/-- V60.06 `INT with IFF1=0`. -/
theorem test_interrupt_V60_06 : stepsTo (atC000 [(0x0000, 0x00)]
    { State.reset with sp := 0xE000, im := .im1, intLine := true }) 4 (fun t => t.regs.f == 0x00 && t.pc == 0xC001 &&
    t.r == 0x01) = true := by decide

/-- V60.10 `NMI while INT also requested`. -/
theorem test_interrupt_V60_10 : stepsTo (atC000 [(0x0000, 0x00)]
    { State.reset with sp := 0xE000, iff1 := true, iff2 := true, im := .im1, nmiPending := true, intLine := true }) 11
    (fun t => t.regs.f == 0x00 && t.sp == 0xDFFE && t.iff1 == false && t.pc == 0x0066 && t.r == 0x01 &&
    t.readByte 0xDFFE == 0x00 && t.readByte 0xDFFF == 0xC0) = true := by decide

/-- V60.11 `fault ED 00`. -/
theorem test_fatal_V60_11 : faults (atC000 [(0x0000, 0xED), (0x0001, 0x00)] State.reset) ⟨0xC000, [0xED, 0x00]⟩ = true
    := by decide

/-- V60.12 `fault DD 00`. -/
theorem test_fatal_V60_12 : faults (atC000 [(0x0000, 0xDD), (0x0001, 0x00)] State.reset) ⟨0xC000, [0xDD, 0x00]⟩ = true
    := by decide

/-- V60.13 `fault CB 37 (SLL A)`. -/
theorem test_fatal_V60_13 : faults (atC000 [(0x0000, 0xCB), (0x0001, 0x37)] State.reset) ⟨0xC000, [0xCB, 0x37]⟩ = true
    := by decide

/-- V60.14 `fault FD CB 05 C0`. -/
theorem test_fatal_V60_14 : faults (atC000 [(0x0000, 0xFD), (0x0001, 0xCB), (0x0002, 0x05), (0x0003, 0xC0)]
    State.reset) ⟨0xC000, [0xFD, 0xCB, 0x05, 0xC0]⟩ = true := by decide

/-! ## The Memory Unit, the host and the scheduler: vectors E, M and S of spec/95_test_vectors.md -/

/-- An image of one byte a bank, at the start of each: enough for a read at the start of a window. -/
def image (firsts : List Byte) : List Host.Cell := (List.range firsts.length).map fun k => (k * 16384, firsts.getD k 0)

/-- E1.3, E1.4. -/
theorem test_mirror_E1 :
    ((State.reset.store 0xFFFF 0x03).readByte 0xDFFF == 0x03 && (State.reset.store 0xFFFF 0x03).slots == ⟨0, 1, 3⟩ &&
      (State.reset.store 0xDFFF 0x05).readByte 0xFFFF == 0x05 && (State.reset.store 0xDFFF 0x05).slots == ⟨0, 1, 2⟩) =
      true := by decide

/-- E2.1, E2.3, on an image whose first two bytes are 0x11. -/
theorem test_wrap_E2 :
    ((State.reset.mount 32768 [(0, 0x11), (1, 0x11)]).readWord 0xFFFF == 0x11FF &&
      (State.reset.mount 32768 [(0, 0x11), (1, 0x11)]).readDword 0xFFFE == 0x1111FFFF) = true := by decide

/-- E3.1 to E3.4. -/
theorem test_bank_mirror_E3 :
    let s := State.reset.mount 49152 (image [0x10, 0x11, 0x12])
    ((s.store 0xFFFF 0x05).readByte 0x8000 == 0x12 && (s.store 0xFFFF 0xC5).readByte 0x8000 == 0x12 &&
      (s.store 0xFFFE 0x3F).readByte 0x4000 == 0x10 && (s.store 0xFFFD 0x04).readByte 0x0000 == 0x10) = true := by decide

/-- E4.1, E4.2, E4.3. -/
theorem test_bad_mount_E4 :
    let s := State.reset.mount 49152 (image [0x10, 0x11, 0x12])
    (s.mount 32769 [] == s && s.mount 0 [] == s && (State.reset.mount 16383 []).readByte 0x0000 == 0xFF) = true := by decide

/-- E5.1, E5.4. -/
theorem test_rejected_writes_E5 :
    (State.reset.writeByte 0x8000 0x12 == (State.reset, false) && (State.reset.writeWord 0xBFFF 0x1234).2 == false &&
      (State.reset.writeWord 0xBFFF 0x1234).1.readByte 0xC000 == 0x12) = true := by decide

/-- E6: bytes at 0x0400 of both banks. -/
theorem test_bank_switch_E6 :
    let s := State.reset.mount 32768 [(0x0400, 0x11), (0x03FF, 0x11), (0x4400, 0x22), (0x43FF, 0x22)]
    (s.readByte 0x0400 == 0x11 && (s.store 0xFFFD 0x01).readByte 0x0400 == 0x22 &&
      (s.store 0xFFFD 0x01).readByte 0x03FF == 0x11) = true := by decide

/-- M7, M8: a window keeps its index over a Mount, and PowerOn keeps the table. -/
theorem test_remount_M7_M8 :
    let s := ((State.reset.mount 32768 (image [0x11, 0x22])).store 0xFFFE 0x01).mount 16384 (image [0xAA])
    (s.readByte 0x4000 == 0xAA && (s.powerOn .named).slots == ⟨0, 1, 2⟩ && (s.powerOn .named).readByte 0xC000 == 0xFF &&
      (s.powerOn .named).readByte 0x4000 == 0xAA) = true := by decide

/-- M11. -/
theorem test_word_selects_two_windows_M11 :
    ((State.reset.writeWord 0xFFFD 0x0201).1.slots == ⟨1, 2, 2⟩ && (State.reset.writeWord 0xFFFD 0x0201).2) = true := by
  decide

/-- S1: a session never powered on. -/
theorem test_run_unpowered_S1 : step State.session = .next State.session := rfl

/-- S3, its two boundaries: 108 T-states at the first, 104 at the second, whose callback calls PowerOff. -/
theorem test_frames_S3 :
    let s := { State.reset with runState := .running, callback := some 7, callbackOff := [false, true], frameAcc := 108 }
    let t := { s.crossFrames 100 with frameAcc := 104 }.crossFrames 100
    ((s.crossFrames 100).frameAcc == 8 && (s.crossFrames 100).runState == .running && t.frameAcc == 4 &&
      t.runState == .idle && t.powered == false && t.events == [.frame 7, .frame 7]) = true := by decide

/-- R545, R550: two boundaries in one turn; a PowerOff from the asynchronous context lands between them. -/
theorem test_frames_asynchronous_powerOff :
    let s := { State.reset with runState := .running, callback := some 7, callbackOff := [false, false, false] }
    let t := { s with asyncOff := [false, true], frameAcc := 350 }.crossFrames 100
    (t.frameAcc == 150 && t.runState == .idle && t.powered == false && t.events == [.frame 7, .frame 7]) = true := by
  decide

/-- The two steps of S4 that matter: no boundary before FRAME_CYCLES, and the power check at it. -/
theorem test_frames_S4 :
    let s := { State.reset with runState := .running, powered := false, frameAcc := 99 }
    (s.crossFrames 100 == s && ({ s with frameAcc := 108 }.crossFrames 100).frameAcc == 8 &&
      ({ s with frameAcc := 108 }.crossFrames 100).runState == .idle) = true := by decide

/-- E8.2: the first CPU step from a cartridge that begins with ED 00. -/
theorem test_first_fault_E8 :
    faults (State.reset.mount 16384 [(0, 0xED), (1, 0x00)]) ⟨0x0000, [0xED, 0x00]⟩ = true := by decide +kernel

/-- Under UNWRITTEN_READ = `fault` the machine's step is the model fault for this register. -/
def unwrittenReadAt (s : State) (l : Loc) : Bool :=
  match stepUnder .fault s with
  | .unwrittenRead k => k == l
  | _ => false

/-- S6: XOR A as the first instruction, with UNWRITTEN_READ = fault. -/
theorem test_unwritten_S6 : unwrittenReadAt (State.reset.mount 16384 [(0, 0xAF)]) (.reg .a) = true := by decide

/-- S7: the same with UNWRITTEN_READ = draw, whatever A was drawn as. -/
theorem test_drawn_S7 :
    (match cpuStepUnder .draw ((State.reset.mount 16384 [(0, 0xAF)]).setA 0x5A) with
      | .machine (.next t) => t.regs.a == 0x00 && t.regs.f == 0x44 && decide (Loc.reg .a ∉ t.marks.unwritten)
      | _ => false) = true := by decide

/-- R605: with no cartridge the first fetch is 0xFF, RST 38h, which reads SP. -/
theorem test_unwritten_boot : unwrittenReadAt State.reset .sp = true := by decide

/-- R601: EX DE,HL moves the marks with the values. -/
theorem test_marks_exDeHl :
    let m := (Marks.reset.written hlLocs).after .exDeHl State.reset
    (decide (Loc.reg .d ∉ m.unwritten) && decide (Loc.reg .e ∉ m.unwritten) && decide (Loc.reg .h ∈ m.unwritten)) = true := by
  decide

/-- R602: the state after reset is a PowerOn of a fresh session. -/
theorem test_reset_is_powerOn : (State.session.powerOn .named == State.reset) = true := by decide

/-- The placing of an instruction: the very next step from reset runs it. -/
theorem test_withFetchWord :
    (match step (State.reset.withFetchWord 16 0x3E2A) with
      | .next t => t.regs.a == 0x2A && t.pc == 0x0002
      | _ => false) = true := by decide

/-! ## For every statement with hypotheses, a state that meets them: each clause, at a boundary of its range -/

/-- Code and data from 0xC000 on, running. -/
def running (cells : List Host.Cell) : State := { atC000 cells State.reset with runState := .running }

theorem test_meets_MirroredRam : 0xE000 ≤ (0xE000 : Word).toNat ∧ 0xE000 ≤ (0xFFFF : Word).toNat := by decide

/-- Both clauses of ByteWrites at the boundary, and the window addresses. -/
theorem test_meets_ByteWrites :
    (0xBFFF : Word).toNat ≤ 0xBFFF ∧ 0xC000 ≤ (0xC000 : Word).toNat ∧ 0xC000 ≤ (0xFFFD : Word).toNat ∧
      State.reset.writeByte 0xBFFF 0x77 = (State.reset, false) ∧
      (State.reset.writeByte 0xC000 0x77).1.readByte 0xE000 = 0x77 := by decide

/-- AddressDecode and WindowShowsSelectedBank where their ranges meet: the last byte of each and the first of the next. -/
theorem test_meets_AddressDecode :
    let s := (State.reset.mount 65536 [(0x03FF, 0x10), (0x4400, 0x21), (0x7FFF, 0x22), (0x8000, 0x33), (0xBFFF, 0x34),
      (0xC000, 0x45), (0xFFFF, 0x46)])
    let s := ((s.store 0xFFFD 0x01).store 0xFFFE 0x02).store 0xFFFF 0x43
    (s.readByte 0x03FF == 0x10 && s.readByte 0x0400 == 0x21 && s.readByte 0x3FFF == 0x22 && s.readByte 0x4000 == 0x33 &&
      s.readByte 0x7FFF == 0x34 && s.readByte 0x8000 == 0x45 && s.readByte 0xBFFF == 0x46 && s.readByte 0xC000 == 0xFF &&
      s.readByte 0xFFFF == 0x43) = true := by decide

/-- Both clauses of MountTable; an image beyond the table's 64 banks. -/
theorem test_meets_MountTable :
    (0 = 0 ∨ 0 % 16384 ≠ 0) ∧ (16383 = 0 ∨ 16383 % 16384 ≠ 0) ∧ (0 < 1 ∧ 16384 = 1 * 16384) ∧ (0 < 65 ∧ 1064960 = 65 * 16384) ∧
      (State.reset.mount 1064960 []).romBanks[63]? = some (some 63) := by decide

theorem test_meets_DecodeEncode :
    (Instr.setMemIy 7 0x80).wellFormed = true ∧ encode (.setMemIy 7 0x80) <+: [0xFD, 0xCB, 0x80, 0xFE] ∧
      encode (.bitReg 0 .b) <+: [0xCB, 0x40, 0x00, 0x00] := by decide

theorem test_meets_EncodeDecode : ∃ d, decode 0x3E 0x2A 0x00 0x00 = .ok d ∧ d.instr = .ldRegN .a 0x2A := ⟨_, rfl, rfl⟩

/-- Every row of FatalSequences, at its edges; a neighbour of each is no fatal sequence. -/
theorem test_meets_FatalSequences :
    (∃ e, decode 0xCB 0x30 0x00 0x00 = .error e) ∧ (∃ e, decode 0xCB 0x37 0x00 0x00 = .error e) ∧
      (∃ e, decode 0xED 0xBC 0x00 0x00 = .error e) ∧ (∃ e, decode 0xDD 0xFD 0x00 0x00 = .error e) ∧
      (∃ e, decode 0xFD 0xCB 0x05 0x36 = .error e) ∧ (∃ e, decode 0xDD 0xCB 0x05 0x07 = .error e) ∧
      (∃ d, decode 0xCB 0x38 0x00 0x00 = .ok d) ∧ ∃ d, decode 0xDD 0xCB 0x05 0x3E = .ok d :=
  ⟨⟨_, rfl⟩, ⟨_, rfl⟩, ⟨_, rfl⟩, ⟨_, rfl⟩, ⟨_, rfl⟩, ⟨_, rfl⟩, ⟨_, rfl⟩, ⟨_, rfl⟩⟩

theorem test_meets_InstructionFrame : ∃ t, exec (.ldMemHlN 0x77) State.reset = .next t := ⟨_, rfl⟩

theorem test_meets_LogicBytes : AluOp.and = .and ∧ AluOp.or = .or ∧ AluOp.xor = .xor := by decide

theorem test_meets_DecimalArithmetic :
    let s := { State.reset with regs := { RegFile.zero with a := 0x99 } }
    s.regs.a.toNat / 16 ≤ 9 ∧ s.regs.a.toNat % 16 ≤ 9 ∧ (0x09 : Byte).toNat / 16 ≤ 9 ∧ (0x09 : Byte).toNat % 16 ≤ 9 := by
  decide

theorem test_meets_BitInstructions : 0 < 8 ∧ 7 < 8 := by decide

/-- Both ends of BlockTransfer and BlockSearch: the last byte of a block, and the longest block, BC = 0. -/
theorem test_meets_BlockTransfer_BlockSearch :
    let last := { State.reset with regs := { RegFile.zero with c := 0x01 } }
    last.bc = 1 ∧ State.reset.bc ≠ 1 ∧ (last.bc = 1 ∨ last.regs.a = last.readByte last.hl) ∧
      (State.reset.bc ≠ 1 ∧ State.reset.regs.a ≠ State.reset.readByte State.reset.hl) := by decide

theorem test_meets_CallsAndReturns :
    Cond.on .nz State.reset.regs.f = true ∧ Cond.on .z State.reset.regs.f = false ∧ 0 < 8 ∧ 7 < 8 := by decide

/-- The stack at both ends of system RAM. -/
theorem test_meets_StackRoundTrip :
    let low := { State.reset with sp := 0xC002 }
    let high := { State.reset with sp := 0x0000 }
    0xC000 ≤ (low.sp - 1).toNat ∧ 0xC000 ≤ (low.sp - 2).toNat ∧ 0xC000 ≤ (high.sp - 1).toNat ∧
      0xC000 ≤ (high.sp - 2).toNat := by decide

theorem test_meets_PortTransfer_BlockPorts :
    let s := { State.reset with ioAnswers := [0x5A], regs := { RegFile.zero with b := 0x01 } }
    s.ioAnswers = 0x5A :: [] ∧ s.regs.b = 1 ∧ State.reset.regs.b ≠ 1 := by decide

/-- StepRunsDecodedInstruction, from the running and from the idle console. -/
theorem test_meets_StepRunsDecodedInstruction :
    let s := running [(0, 0x3E), (1, 0x2A)]
    (∃ d, decode (s.readByte s.pc) (s.readByte (s.pc + 1)) (s.readByte (s.pc + 2)) (s.readByte (s.pc + 3)) = .ok d) ∧
      s.nmiPending = false ∧ s.intCondition = false ∧ s.halted = false ∧ s.runState = .running ∧
      State.reset.powered = true ∧ State.reset.fault = none := ⟨⟨_, rfl⟩, by decide, by decide, by decide, by decide, by decide, by decide⟩

/-- MachineStep: an idle console without power, and from the idle and from the running console a halted step, the acceptance
of an NMI, and a fault. -/
theorem test_meets_MachineStep :
    let s := running []
    State.session.runState = .idle ∧ State.session.powered = false ∧ State.reset.powered = true ∧
      State.reset.fault = none ∧ s.runState = .running ∧
      (∃ t, cpuStep { s with halted := true } = .next t) ∧ (∃ t, cpuStep { s with nmiPending := true } = .next t) ∧
      ∃ f, cpuStep (running [(0, 0xED), (1, 0x00)]) = .fault f :=
  ⟨by decide, by decide, by decide, by decide, by decide, ⟨_, rfl⟩, ⟨_, rfl⟩, ⟨_, rfl⟩⟩

/-- FatalStep: fatal bytes in the first turn of Run and in a later one, and the mode-0 fault. -/
theorem test_meets_FatalStep_later :
    let s := running [(0, 0xFD), (1, 0xFF)]
    let m := { running [] with intLine := true, iff1 := true, busByte := 0x00 }
    s.nmiPending = false ∧ s.intCondition = false ∧ s.halted = false ∧ s.runState = .running ∧
      Fatal (s.readByte s.pc) (s.readByte (s.pc + 1)) (s.readByte (s.pc + 3)) ∧
      step s = .fault (.unsupportedOpcode .decode ⟨0xC000, [0xFD, 0xFF]⟩) ∧ m.runState = .running ∧
      step m = .fault (.unsupportedOpcode .busByte ⟨0xC000, [0x00]⟩) := by
  refine ⟨by decide, by decide, by decide, by decide, .inr (.inr (.inl ⟨.inr (by decide), by decide, by decide⟩)), rfl,
    by decide, rfl⟩

theorem test_meets_FatalStep :
    let s := atC000 [(0, 0xED), (1, 0x00)] State.reset
    s.nmiPending = false ∧ s.intCondition = false ∧ s.halted = false ∧ s.powered = true ∧ s.fault = none ∧
      s.runState = .idle ∧ Fatal (s.readByte s.pc) (s.readByte (s.pc + 1)) (s.readByte (s.pc + 3)) := by
  refine ⟨by decide, by decide, by decide, by decide, by decide, by decide, .inr (.inl ⟨by decide, by decide⟩)⟩

/-- NmiAcceptance and NmiReturn, with the stack at both ends of system RAM. -/
theorem test_meets_NmiAcceptance_NmiReturn :
    let s := { State.reset with nmiPending := true, sp := 0xC002 }
    s.nmiPending = true ∧ s.iff1 = s.iff2 ∧ 0xC000 ≤ (s.sp - 1).toNat ∧ 0xC000 ≤ (s.sp - 2).toNat := by decide

/-- IntAcceptance in each mode, with the least and the greatest restart and with a byte that is none. -/
theorem test_meets_IntAcceptance :
    let s := { State.reset with intLine := true, iff1 := true, busByte := 0xC7 }
    s.nmiPending = false ∧ s.intLine = true ∧ s.iff1 = true ∧ s.eiShadow = false ∧ s.im = .im0 ∧
      (∃ k, k < 8 ∧ s.busByte.toNat = 0xC7 + 8 * k) ∧
      (∃ k, k < 8 ∧ ({ s with busByte := 0xFF } : State).busByte.toNat = 0xC7 + 8 * k) ∧
      (¬ ∃ k, k < 8 ∧ ({ s with busByte := 0xC6 } : State).busByte.toNat = 0xC7 + 8 * k) ∧
      ({ s with im := .im1 } : State).im = .im1 ∧ ({ s with im := .im2 } : State).im = .im2 := by decide

theorem test_meets_HaltedStep :
    let s := { State.reset with halted := true, intLine := true, iff1 := true, eiShadow := true }
    s.halted = true ∧ s.nmiPending = false ∧ (s.intLine = false ∨ s.iff1 = false ∨ s.eiShadow = true) ∧
      ({ s with intLine := false, eiShadow := false } : State).intLine = false ∧
      ({ s with iff1 := false, eiShadow := false } : State).iff1 = false := by decide

/-- ShadowAndRefresh: a step that executes EI, and one that executes LD R,A. -/
theorem test_meets_ShadowAndRefresh :
    (∃ t, cpuStep (atC000 [(0, 0xFB)] State.reset) = .next t ∧ t.eiShadow = true) ∧
      ∃ t, cpuStep (atC000 [(0, 0xED), (1, 0x4F)] State.reset) = .next t ∧ t.r = 0x00 := ⟨⟨_, rfl, rfl⟩, ⟨_, rfl, rfl⟩⟩

/-- Each clause of FrameBoundaries, at a boundary: no boundary; two crossed, without and with a callback; the run ended at the
first by a flag already clear, and at the second by the callback and by an asynchronous PowerOff. -/
theorem test_meets_FrameBoundaries :
    let s := { State.reset with frameAcc := 200 }
    let c := { s with callback := some 7, callbackOff := [false, true], asyncOff := [false, true] }
    0 < 100 ∧ ({ s with frameAcc := 99 } : State).frameAcc < 100 ∧ 2 = s.frameAcc / 100 ∧ s.powered = true ∧
      s.callback = none ∧ (∀ j, j < 2 → s.asyncOff[j]? ≠ some true) ∧
      (∀ j, j < 2 → [false, false][j]? = some false) ∧ (0 + 1) * 100 ≤ s.frameAcc ∧
      ({ c with powered := false } : State).powered = false ∧ (1 + 1) * 100 ≤ c.frameAcc ∧
      (∀ j, j < 1 → c.asyncOff[j]? ≠ some true ∧ c.callbackOff[j]? = some false) ∧ c.asyncOff[1]? = some true ∧
      c.callback ≠ none ∧ c.callbackOff[1]? = some true := by decide

theorem test_meets_PowerOffLatency :
    let s := { running [(0, 0x18), (1, 0xFE)] with powered := false, frameAcc := 99 }
    0 < 100 ∧ s.runState = .running ∧ s.powered = false ∧ s.frameAcc < 100 := by decide

/-- FaultIsSticky: idle with a record, idle without power, a step that goes on, and an action that is no PowerOn. -/
theorem test_meets_FaultIsSticky :
    let s := { State.reset with fault := some ⟨0x0000, [0xED, 0x00]⟩ }
    s.runState = .idle ∧ s.fault ≠ none ∧ State.session.powered = false ∧ step s = .next s ∧
      s.act .requestNmi = .next s.requestNmi := ⟨by decide, by decide, by decide, rfl, rfl⟩

theorem test_meets_DiagnosticText :
    State.reset.fault = none ∧ (FaultRecord.mk 0xC000 [0xDD, 0xCB, 0x00, 0x07]).opcode.length ≤ 4 := by decide

/-- HostActions: running, idle, and a step that goes on. -/
theorem test_meets_HostActions :
    (running []).runState = .running ∧ State.reset.runState = .idle ∧ ∃ t, step (running [(0, 0x00)]) = .next t :=
  ⟨by decide, by decide, ⟨_, rfl⟩⟩

/-- A state with the invariant that is not the one after reset: running, a blank image mounted, a byte of RAM listed. -/
theorem test_meets_StepKeepsInvariant :
    let s := { running [(0, 0x00), (8191, 0x12)] with romBanks := Vector.replicate 64 (some 0), cart := ⟨1, []⟩ }
    Inv s ∧ ∃ t, step s = .next t := by
  refine ⟨⟨by decide, by decide, by decide, by decide, ?_, ?_, ?_, ?_, ?_, ?_, by decide⟩, ⟨_, rfl⟩⟩
  · intro j b h
    by_cases hj : j < 64
    · simp [hj] at h; subst h; decide
    · simp [hj] at h
  · intro _; exact Nat.succ_pos _
  · intro _; rfl
  · intro _ h; exact absurd h (by simp [running, atC000, State.reset])
  · intro _; rfl
  · exact ⟨Nat.succ_pos _, by decide⟩

/-- HostKeepsInvariant: an action that gives a state, and a step that faults. -/
theorem test_meets_HostKeepsInvariant :
    (∃ t, State.reset.act (.mount 16384 []) = .next t) ∧ ∃ cause rec, step (atC000 [(0, 0xED), (1, 0x00)] State.reset) = .fault (.unsupportedOpcode cause rec) :=
  ⟨⟨_, rfl⟩, ⟨_, _, rfl⟩⟩

/-- StepLeaves: steps that change I, IM and the shadow registers. -/
theorem test_meets_StepLeaves :
    let a := { RegFile.zero with a := 0x3F }
    (∃ t, step { running [(0, 0xED), (1, 0x47)] with regs := a } = .next t ∧ t.i = 0x3F) ∧
      (∃ t, step (running [(0, 0xED), (1, 0x5E)]) = .next t ∧ t.im = .im2) ∧
      ∃ t, step { running [(0, 0x08)] with regs := a } = .next t ∧ t.shadow.a = 0x3F :=
  ⟨⟨_, rfl, rfl⟩, ⟨_, rfl, rfl⟩, ⟨_, rfl, rfl⟩⟩

/-- UnwrittenValuesDoNotMatter: two states that differ in A, which holds no value; LD B,n reads nothing of it, XOR A does; and a
fault. -/
theorem test_meets_UnwrittenValuesDoNotMatter :
    let s := atC000 [(0, 0x06), (1, 0x12)] State.reset
    let t := s.setA 0x55
    AgreeBut s t ∧ s ≠ t ∧ (∃ s', runIteration .fault 100 s = .machine (.next s')) ∧
      (∃ f, runIteration .fault 100 (atC000 [(0, 0xED), (1, 0x00)] State.reset) = .machine (.fault f)) ∧
      ∃ l, runIteration .fault 100 (atC000 [(0, 0xAF)] State.reset) = .unwrittenRead l := by
  refine ⟨⟨?_, ?_, ?_⟩, by decide, ⟨_, rfl⟩, ⟨_, rfl⟩, ⟨_, rfl⟩⟩
  · exact fun l hl => absurd (mem_allLocs l) hl
  · intro l hl
    cases l <;> first | rfl | trivial
  · intro p hp
    cases p with
    | reg r => cases r <;> first | rfl | exact absurd hp (by decide)
    | memory => exact same_memory rfl rfl rfl rfl
    | _ => rfl

/-- UnwrittenReads: a turn that reads nothing unwritten, one that does, running and idle, and the empty bank table. -/
theorem test_meets_UnwrittenReads :
    let s := running [(0, 0x06), (1, 0x12)]
    let t := running [(0, 0x39)]
    s.runState = .running ∧ (∀ l ∈ s.stepReads, l ∉ s.marks.unwritten) ∧ (∃ l ∈ t.stepReads, l ∈ t.marks.unwritten) ∧
      State.reset.runState = .idle ∧ (∃ l ∈ State.reset.stepReads, l ∈ State.reset.marks.unwritten) ∧
      State.reset.romBanks[0]? = some none := by decide

/-- MarksMove, an instruction that is no exchange: ADC A,B changes A and flags; LD B,(HL) changes no flag; and a conditional CALL
whose condition fails does not write SP. -/
theorem test_meets_MarksMove :
    let s := { State.reset with regs := { RegFile.zero with a := 0x80, b := 0x80 } }
    Instr.adcReg .b ≠ .exAfAf ∧ Instr.adcReg .b ≠ .exx ∧ Instr.adcReg .b ≠ .exDeHl ∧
      (Instr.adcReg .b).names s (.reg .a) ∧ ¬ (Instr.adcReg .b).names s (.reg .b) ∧
      (∃ t, exec (.adcReg .b) s = .next t ∧ ¬ (Loc.reg .a).same s t ∧ ¬ (Loc.flag .c).same s t) ∧
      ¬ (Instr.ldRegMemHl .b).names s (.flag .c) ∧ ¬ (Instr.callCond .z 0x4000).names s .sp := by
  refine ⟨by decide, by decide, by decide, ?_, ?_, ⟨_, rfl, ?_, ?_⟩, ?_, fun h => ?_⟩
  · exact .head _
  · exact (by decide : Part.reg .b ∉ [Part.reg .a, .f])
  · exact (by decide : (0x00 : Byte) ≠ 0x80)
  · exact (by decide : true ≠ false)
  · exact List.not_mem_nil
  · exact absurd (h.2 .z 0x4000 (.inr rfl)) (by decide)

/-- MarksMove, a turn that goes on: the acceptance of an NMI and of an INT, a halted one, a decoded instruction, under both
settings and at the edge of a frame. -/
theorem test_meets_MarksMove_turn :
    let s := running [(0, 0x06), (1, 0x12)]
    let n := { s with nmiPending := true, marks := Marks.reset.written [.sp] }
    let i := { s with intLine := true, iff1 := true, im := .im1 }
    let h := { s with halted := true }
    s.runState = .running ∧ n.nmiPending = true ∧ i.intCondition = true ∧ h.halted = true ∧ h.nmiPending = false ∧
      h.intCondition = false ∧ s.halted = false ∧ s.nmiPending = false ∧ s.intCondition = false ∧
      (∃ t, runIteration .fault 100 n = .machine (.next t)) ∧ (∃ t, runIteration .draw 100 i = .machine (.next t)) ∧
      (∃ t, runIteration .fault 1 h = .machine (.next t)) ∧ (∃ t, runIteration .fault 7 s = .machine (.next t)) ∧
      ∃ d, s.decodeAtPc = .ok d ∧ d.instr = .ldRegN .b 0x12 :=
  ⟨by decide, by decide, by decide, by decide, by decide, by decide, by decide, by decide, by decide, ⟨_, rfl⟩, ⟨_, rfl⟩,
    ⟨_, rfl⟩, ⟨_, rfl⟩, ⟨_, rfl, rfl⟩⟩

end Sys2Proof.Tests
end

/-! PROOF. What an instruction changes at most (R15): a relation between two states that every operation of the machine
extends, one rule for each operation, and from these rules the frame of every instruction. -/

namespace Sys2Proof

open Sys2Proof.Machine

/-- The way from `s` to `t` changes no part but `parts`, no flag but `flags`, and the reading of no address but those that a
store at one of `stores` disturbs. -/
structure Confined (parts : List Part) (flags : List FlagName) (stores : List Word) (s t : State) : Prop where
  parts : UnchangedBut parts s t
  flags : ∀ k, k ∉ flags → k.of t.flags = k.of s.flags
  reads : ∀ a, (∀ w ∈ stores, ¬ disturbs w a) → t.readByte a = s.readByte a

/-- The part an index register is. -/
def Index.part : Index → Part
  | .ix => .ix
  | .iy => .iy

namespace Confined

section

variable {P : List Part} {F : List FlagName} {A : List Word} {s t u : State}

theorem refl (P : List Part) (F : List FlagName) (A : List Word) (s : State) : Confined P F A s s where
  parts := fun p _ => by cases p with | memory => exact ⟨rfl, fun _ => rfl⟩ | _ => rfl
  flags := fun _ _ => rfl
  reads := fun _ _ => rfl

/-- More parts may be named. -/
theorem cons (h : Confined P F A s t) (p : Part) : Confined (p :: P) F A s t :=
  { h with parts := fun q hq => h.parts q fun hm => hq (.tail _ hm) }

/-- Either outcome of a condition is confined when both are. -/
theorem branch (c : Bool) (ht : Confined P F A s t) (hu : Confined P F A s u) : Confined P F A s (if c then t else u) := by
  cases c
  · exact hu
  · exact ht

/-! ### Registers and flags -/

theorem setReg8 (h : Confined P F A s t) (r : Reg8) (v : Byte) (hr : .reg r ∈ P) :
    Confined P F A s (t.setReg8 r v) where
  parts := fun p hp => by
    cases p with
    | reg r' =>
      have hne : r ≠ r' := fun he => hp (he ▸ hr)
      have hget : (t.setReg8 r v).reg8 r' = t.reg8 r' := (RegFile.get_set t.regs r r' v).trans (if_neg hne)
      exact hget.trans (h.parts _ hp)
    | f => exact (RegFile.set_f t.regs r v).trans (h.parts _ hp)
    | _ => exact h.parts _ hp
  flags := fun k hk => by
    have hf : (t.setReg8 r v).flags = t.flags := congrArg FlagBits.ofByte (RegFile.set_f t.regs r v)
    rw [hf]
    exact h.flags k hk
  reads := h.reads

theorem setFlags (h : Confined P F A s t) (b : FlagBits) (hb : ∀ k, k ∉ F → k.of b = k.of s.flags) (hf : .f ∈ P) :
    Confined P F A s (t.setFlags b) where
  parts := fun p hp => by
    cases p with
    | reg r => exact (RegFile.get_with_f t.regs r b.toByte).trans (h.parts _ hp)
    | f => exact absurd hf hp
    | _ => exact h.parts _ hp
  flags := fun k hk => by
    rw [State.flags_setFlags]
    exact hb k hk
  reads := h.reads

theorem setA (h : Confined P F A s t) (v : Byte) (ha : .reg .a ∈ P) : Confined P F A s (t.setA v) :=
  h.setReg8 .a v ha

theorem setB (h : Confined P F A s t) (v : Byte) (hb : .reg .b ∈ P) : Confined P F A s (t.setB v) :=
  h.setReg8 .b v hb

theorem setBc (h : Confined P F A s t) (w : Word) (hb : .reg .b ∈ P) (hc : .reg .c ∈ P) :
    Confined P F A s (t.setBc w) :=
  (h.setReg8 .b (hi8 w) hb).setReg8 .c (lo8 w) hc

theorem setDe (h : Confined P F A s t) (w : Word) (hd : .reg .d ∈ P) (he : .reg .e ∈ P) :
    Confined P F A s (t.setDe w) :=
  (h.setReg8 .d (hi8 w) hd).setReg8 .e (lo8 w) he

theorem setHl (h : Confined P F A s t) (w : Word) (hh : .reg .h ∈ P) (hl : .reg .l ∈ P) :
    Confined P F A s (t.setHl w) :=
  (h.setReg8 .h (hi8 w) hh).setReg8 .l (lo8 w) hl

theorem setIndex (h : Confined P F A s t) (x : Index) (w : Word) (hx : x.part ∈ P) :
    Confined P F A s (t.setIndex x w) :=
  match x with
  | .ix => { h with parts := fun p hp => by cases p with | ix => exact absurd hx hp | _ => exact h.parts _ hp }
  | .iy => { h with parts := fun p hp => by cases p with | iy => exact absurd hx hp | _ => exact h.parts _ hp }

theorem setSp (h : Confined P F A s t) (w : Word) (hs : .sp ∈ P) : Confined P F A s (t.setSp w) :=
  { h with parts := fun p hp => by cases p with | sp => exact absurd hs hp | _ => exact h.parts _ hp }

theorem popped (h : Confined P F A s t) (hs : .sp ∈ P) : Confined P F A s t.popped := h.setSp (t.sp + 2) hs

/-! ### Control state -/

theorem jump (h : Confined P F A s t) (w : Word) (hc : .pc ∈ P) : Confined P F A s (t.jump w) :=
  { h with parts := fun p hp => by cases p with | pc => exact absurd hc hp | _ => exact h.parts _ hp }

theorem drew (h : Confined P F A s t) (hd : .draws ∈ P) : Confined P F A s t.drew :=
  { h with parts := fun p hp => by cases p with | draws => exact absurd hd hp | _ => exact h.parts _ hp }

theorem withI (h : Confined P F A s t) (v : Byte) (hi : .iReg ∈ P) : Confined P F A s { t with i := v } :=
  { h with parts := fun p hp => by cases p with | iReg => exact absurd hi hp | _ => exact h.parts _ hp }

theorem withR (h : Confined P F A s t) (v : Byte) (hr : .rReg ∈ P) : Confined P F A s { t with r := v } :=
  { h with parts := fun p hp => by cases p with | rReg => exact absurd hr hp | _ => exact h.parts _ hp }

theorem withIff1 (h : Confined P F A s t) (b : Bool) (hi : .iff1 ∈ P) : Confined P F A s { t with iff1 := b } :=
  { h with parts := fun p hp => by cases p with | iff1 => exact absurd hi hp | _ => exact h.parts _ hp }

theorem withIff2 (h : Confined P F A s t) (b : Bool) (hi : .iff2 ∈ P) : Confined P F A s { t with iff2 := b } :=
  { h with parts := fun p hp => by cases p with | iff2 => exact absurd hi hp | _ => exact h.parts _ hp }

theorem withIm (h : Confined P F A s t) (m : IntMode) (hi : .im ∈ P) : Confined P F A s { t with im := m } :=
  { h with parts := fun p hp => by cases p with | im => exact absurd hi hp | _ => exact h.parts _ hp }

theorem withHalted (h : Confined P F A s t) (b : Bool) (hh : .halted ∈ P) :
    Confined P F A s { t with halted := b } :=
  { h with parts := fun p hp => by cases p with | halted => exact absurd hh hp | _ => exact h.parts _ hp }

theorem withEiShadow (h : Confined P F A s t) (b : Bool) (he : .eiShadow ∈ P) :
    Confined P F A s { t with eiShadow := b } :=
  { h with parts := fun p hp => by cases p with | eiShadow => exact absurd he hp | _ => exact h.parts _ hp }

theorem spend (h : Confined P F A s t) (n : Nat) (hc : .cycles ∈ P) : Confined P F A s (t.spend n) :=
  { h with parts := fun p hp => by cases p with | cycles => exact absurd hc hp | _ => exact h.parts _ hp }

/-- A repeating iteration goes back to its own first byte and draws Y and X (R378, R379). -/
theorem rewind (h : Confined P F A s t) (hc : .pc ∈ P) (hf : .f ∈ P) (hd : .draws ∈ P) (hy : .y ∈ F)
    (hx : .x ∈ F) : Confined P F A s t.rewind :=
  ((h.jump _ hc).setFlags _
    (fun k hk => by
      cases k with
      | y => exact absurd hy hk
      | x => exact absurd hx hk
      | _ => exact h.flags _ hk) hf).drew hd

/-! ### Memory and ports -/

theorem store (h : Confined P F A s t) (a : Word) (v : Byte) (ha : a ∈ A) (hm : .memory ∈ P)
    (hs : .slots ∈ P) : Confined P F A s (t.store a v) where
  parts := fun p hp => by
    cases p with
    | memory => exact absurd hm hp
    | slots => exact absurd hs hp
    | _ => exact h.parts _ hp
  flags := h.flags
  reads := fun x hx => ((readByte_store t a v x).2 (hx a ha)).trans (h.reads x hx)

theorem storeWord (h : Confined P F A s t) (a w : Word) (ha : a ∈ A) (ha' : a + 1 ∈ A) (hm : .memory ∈ P)
    (hs : .slots ∈ P) : Confined P F A s (t.storeWord a w) :=
  (h.store a (lo8 w) ha hm hs).store (a + 1) (hi8 w) ha' hm hs

theorem ioRead (h : Confined P F A s t) (port : Word) (ha : .ioAnswers ∈ P) (he : .events ∈ P)
    (hd : .draws ∈ P) : Confined P F A s (t.ioRead port) :=
  { h with
    parts := fun p hp => by
      cases p with
      | ioAnswers => exact absurd ha hp
      | events => exact absurd he hp
      | draws => exact absurd hd hp
      | _ => exact h.parts _ hp }

theorem ioWrite (h : Confined P F A s t) (port : Word) (v : Byte) (he : .events ∈ P) :
    Confined P F A s (t.ioWrite port v) :=
  { h with parts := fun p hp => by cases p with | events => exact absurd he hp | _ => exact h.parts _ hp }

end

/-! ### Which flags a computation keeps -/

/-- A computation of all eight flags keeps none. -/
theorem all_named (b old : FlagBits) (k : FlagName) (hk : k ∉ [FlagName.s, .z, .y, .h, .x, .pv, .n, .c]) :
    k.of b = k.of old := by
  cases k <;> simp at hk

/-- A computation of every flag but C has to keep C. -/
theorem keeps_c {b old : FlagBits} (hc : b.c = old.c) (k : FlagName) (hk : k ∉ [FlagName.s, .z, .y, .h, .x, .pv, .n]) :
    k.of b = k.of old := by
  cases k with
  | c => exact hc
  | _ => simp at hk

/-- A computation of H, N, C, Y and X has to keep S, Z and P/V. -/
theorem keeps_szpv {b old : FlagBits} (hs : b.s = old.s) (hz : b.z = old.z) (hpv : b.pv = old.pv) (k : FlagName)
    (hk : k ∉ [FlagName.y, .h, .x, .n, .c]) : k.of b = k.of old := by
  cases k with
  | s => exact hs
  | z => exact hz
  | pv => exact hpv
  | _ => simp at hk

/-- A computation of H, N, P/V, Y and X has to keep S, Z and C. -/
theorem keeps_szc {b old : FlagBits} (hs : b.s = old.s) (hz : b.z = old.z) (hc : b.c = old.c) (k : FlagName)
    (hk : k ∉ [FlagName.y, .h, .x, .pv, .n]) : k.of b = k.of old := by
  cases k with
  | s => exact hs
  | z => exact hz
  | c => exact hc
  | _ => simp at hk

/-- CPL has to keep S, Z, P/V and C (R266). -/
theorem keeps_szpvc {b old : FlagBits} (hs : b.s = old.s) (hz : b.z = old.z) (hpv : b.pv = old.pv) (hc : b.c = old.c)
    (k : FlagName) (hk : k ∉ [FlagName.y, .h, .x, .n]) : k.of b = k.of old := by
  cases k with
  | s => exact hs
  | z => exact hz
  | pv => exact hpv
  | c => exact hc
  | _ => simp at hk

/-- DAA has to keep N (R265). -/
theorem keeps_n {b old : FlagBits} (hn : b.n = old.n) (k : FlagName) (hk : k ∉ [FlagName.s, .z, .y, .h, .x, .pv, .c]) :
    k.of b = k.of old := by
  cases k with
  | n => exact hn
  | _ => simp at hk

/-! ### The operations that instructions share, with what each is confined to -/

section

variable (s : State)

theorem of_setReg8 (r : Reg8) (v : Byte) : Confined [.reg r] [] [] s (s.setReg8 r v) := (refl _ _ _ s).setReg8 r v (by simp)

theorem of_setA (v : Byte) : Confined [.reg .a] [] [] s (s.setA v) := of_setReg8 s .a v

theorem of_setPair (p : Pair) (w : Word) : Confined p.parts [] [] s (s.setPair p w) :=
  match p with
  | .bc => (refl [.reg .b, .reg .c] _ _ s).setBc w (by simp) (by simp)
  | .de => (refl [.reg .d, .reg .e] _ _ s).setDe w (by simp) (by simp)
  | .hl => (refl [.reg .h, .reg .l] _ _ s).setHl w (by simp) (by simp)
  | .sp => (refl [.sp] _ _ s).setSp w (by simp)

theorem of_setIndex (x : Index) (w : Word) : Confined [x.part] [] [] s (s.setIndex x w) :=
  (refl _ _ _ s).setIndex x w (by simp)

theorem of_setSp (w : Word) : Confined [.sp] [] [] s (s.setSp w) := (refl _ _ _ s).setSp w (by simp)

theorem of_jump (w : Word) : Confined [.pc] [] [] s (s.jump w) := (refl _ _ _ s).jump w (by simp)

theorem of_store (a : Word) (v : Byte) : Confined [.memory, .slots] [] [a] s (s.store a v) :=
  (refl _ _ _ s).store a v (by simp) (by simp) (by simp)

theorem of_storeWord (a w : Word) : Confined [.memory, .slots] [] [a, a + 1] s (s.storeWord a w) :=
  (refl _ _ _ s).storeWord a w (by simp) (by simp) (by simp) (by simp)

theorem of_push16 (w : Word) : Confined [.sp, .memory, .slots] [] [s.sp - 1, s.sp - 2] s (s.push16 w) :=
  (((refl _ _ _ s).store (s.sp - 1) (hi8 w) (by simp) (by simp) (by simp)).store (s.sp - 2) (lo8 w) (by simp) (by simp)
    (by simp)).setSp (s.sp - 2) (by simp)

theorem of_callTo (w : Word) : Confined [.pc, .sp, .memory, .slots] [] [s.sp - 1, s.sp - 2] s (s.callTo w) :=
  ((of_push16 s s.pc).cons .pc).jump w (by simp)

theorem of_returnTo : Confined [.pc, .sp] [] [] s s.returnTo := ((refl _ _ _ s).popped (by simp)).jump _ (by simp)

theorem of_returnFromInterrupt : Confined [.pc, .sp, .iff1] [] [] s s.returnFromInterrupt :=
  (((refl _ _ _ s).popped (by simp)).jump _ (by simp)).withIff1 s.iff2 (by simp)

theorem of_setFlags {F : List FlagName} (b : FlagBits) (hb : ∀ k, k ∉ F → k.of b = k.of s.flags) :
    Confined [.f] F [] s (s.setFlags b) :=
  (refl _ _ _ s).setFlags b hb (by simp)

/-- Flags of which some bits are drawn. -/
theorem of_setFlags_drew {F : List FlagName} (b : FlagBits) (hb : ∀ k, k ∉ F → k.of b = k.of s.flags) :
    Confined [.f, .draws] F [] s (s.setFlags b).drew :=
  ((refl _ _ _ s).setFlags b hb (by simp)).drew (by simp)

/-- An operation on a register with its flags. -/
theorem of_setReg8_setFlags {F : List FlagName} (r : Reg8) (v : Byte) (b : FlagBits)
    (hb : ∀ k, k ∉ F → k.of b = k.of s.flags) : Confined [.reg r, .f] F [] s ((s.setReg8 r v).setFlags b) :=
  ((refl _ _ _ s).setReg8 r v (by simp)).setFlags b hb (by simp)

/-- An operation on the accumulator with its flags. -/
theorem of_setA_setFlags {F : List FlagName} (v : Byte) (b : FlagBits) (hb : ∀ k, k ∉ F → k.of b = k.of s.flags) :
    Confined [.reg .a, .f] F [] s ((s.setA v).setFlags b) :=
  of_setReg8_setFlags s .a v b hb

/-- An operation on a byte of memory with its flags. -/
theorem of_store_setFlags {F : List FlagName} (a : Word) (v : Byte) (b : FlagBits)
    (hb : ∀ k, k ∉ F → k.of b = k.of s.flags) :
    Confined [.f, .memory, .slots] F [a] s ((s.store a v).setFlags b) :=
  ((refl _ _ _ s).store a v (by simp) (by simp) (by simp)).setFlags b hb (by simp)

/-- Every operation of two bytes into A that names all eight flags (R251 to R257, R267). -/
theorem of_setResult (r : Byte × FlagBits) :
    Confined [.reg .a, .f] [.s, .z, .y, .h, .x, .pv, .n, .c] [] s (s.setResult r) :=
  of_setA_setFlags s r.1 r.2 (all_named _ _)

theorem of_setHlResult {F : List FlagName} (r : Word × FlagBits) (hb : ∀ k, k ∉ F → k.of r.2 = k.of s.flags) :
    Confined (.f :: Pair.hl.parts) F [] s (s.setHlResult r) :=
  ((refl [.f, .reg .h, .reg .l] _ _ s).setHl r.1 (by simp) (by simp)).setFlags r.2 hb (by simp)

theorem of_addIndex (x : Index) (w : Word) : Confined [x.part, .f] [.y, .h, .x, .n, .c] [] s (s.addIndex x w) :=
  ((refl _ _ _ s).setIndex x _ (by simp)).setFlags _ (keeps_szpv rfl rfl rfl) (by simp)

theorem of_rotateDigit (stored res : Byte) :
    Confined [.reg .a, .f, .memory, .slots] [.s, .z, .y, .h, .x, .pv, .n] [s.hl] s (s.rotateDigit stored res) :=
  (((refl _ _ _ s).store s.hl stored (by simp) (by simp) (by simp)).setA res (by simp)).setFlags _ (keeps_c rfl) (by simp)

/-! #### Stack and exchanges -/

/-- AF is written as A and the flags that the low byte holds. -/
theorem setAf_eq (t : State) (w : Word) : t.setAf w = (t.setA (hi8 w)).setFlags (.ofByte (lo8 w)) := by
  simp [State.setAf, State.setA, State.setFlags]

/-- A pop names the flags only where F is popped. -/
theorem of_popped_setStackPair (q : StackPair) (w : Word) :
    Confined (.sp :: q.parts) (if q = .af then [.s, .z, .y, .h, .x, .pv, .n, .c] else []) [] s
      (s.popped.setStackPair q w) := by
  have hs := (refl (.sp :: q.parts) (if q = .af then [.s, .z, .y, .h, .x, .pv, .n, .c] else []) [] s).popped (by simp)
  cases q with
  | bc => exact hs.setBc w (by simp [StackPair.parts]) (by simp [StackPair.parts])
  | de => exact hs.setDe w (by simp [StackPair.parts]) (by simp [StackPair.parts])
  | hl => exact hs.setHl w (by simp [StackPair.parts]) (by simp [StackPair.parts])
  | af =>
    rw [State.setStackPair, setAf_eq]
    exact (hs.setA _ (by simp [StackPair.parts])).setFlags _ (all_named _ _) (by simp [StackPair.parts])

theorem of_popped_setIndex (x : Index) (w : Word) : Confined [x.part, .sp] [] [] s (s.popped.setIndex x w) :=
  ((refl _ _ _ s).popped (by simp)).setIndex x w (by simp)

theorem of_exMemSpHl (v w : Word) :
    Confined [.reg .h, .reg .l, .memory, .slots] [] [s.sp, s.sp + 1] s ((s.storeTop v).setHl w) :=
  ((refl _ _ _ s).storeWord s.sp v (by simp) (by simp) (by simp) (by simp)).setHl w (by simp) (by simp)

theorem of_exMemSpIndex (x : Index) (v w : Word) :
    Confined [x.part, .memory, .slots] [] [s.sp, s.sp + 1] s ((s.storeTop v).setIndex x w) :=
  ((refl _ _ _ s).storeWord s.sp v (by simp) (by simp) (by simp) (by simp)).setIndex x w (by simp)

theorem of_exDeHl : Confined (Pair.de.parts ++ Pair.hl.parts) [] [] s ((s.setDe s.hl).setHl s.de) :=
  ((refl [.reg .d, .reg .e, .reg .h, .reg .l] _ _ s).setDe s.hl (by simp) (by simp)).setHl s.de (by simp) (by simp)

theorem of_exAfAf :
    Confined [.reg .a, .f, .shadow] [.s, .z, .y, .h, .x, .pv, .n, .c] [] s
      { s with
        regs := { s.regs with a := s.shadow.a, f := s.shadow.f }
        shadow := { s.shadow with a := s.regs.a, f := s.regs.f } } where
  parts := fun p hp => by
    cases p with
    | reg r => cases r with | a => simp at hp | _ => rfl
    | f => simp at hp
    | shadow => simp at hp
    | memory => exact same_memory rfl rfl rfl rfl
    | _ => rfl
  flags := all_named _ _
  reads := fun a _ => readByte_congr rfl rfl rfl rfl a

theorem of_exx :
    Confined (.shadow :: (Pair.bc.parts ++ Pair.de.parts ++ Pair.hl.parts)) [] [] s
      { s with
        regs := { s.shadow with a := s.regs.a, f := s.regs.f }
        shadow := { s.regs with a := s.shadow.a, f := s.shadow.f } } where
  parts := fun p hp => by
    cases p with
    | reg r => cases r with | a => rfl | _ => simp [Pair.parts] at hp
    | shadow => simp at hp
    | memory => exact same_memory rfl rfl rfl rfl
    | _ => rfl
  flags := fun _ _ => rfl
  reads := fun a _ => readByte_congr rfl rfl rfl rfl a

/-! #### Ports -/

theorem of_ioWrite (port : Word) (v : Byte) : Confined [.events] [] [] s (s.ioWrite port v) :=
  (refl _ _ _ s).ioWrite port v (by simp)

theorem of_inA (port : Word) (v : Byte) :
    Confined [.reg .a, .ioAnswers, .events, .draws] [] [] s ((s.ioRead port).setA v) :=
  ((refl _ _ _ s).ioRead port (by simp) (by simp) (by simp)).setA v (by simp)

theorem of_inReg (port : Word) (r : Reg8) (v w : Byte) :
    Confined [.reg r, .f, .ioAnswers, .events, .draws] [.s, .z, .y, .h, .x, .pv, .n] [] s
      (((s.ioRead port).setReg8 r v).setFlags (byteFlags s.flags w)) :=
  (((refl _ _ _ s).ioRead port (by simp) (by simp) (by simp)).setReg8 r v (by simp)).setFlags _ (keeps_c rfl) (by simp)

/-! #### Block instructions -/

theorem of_blockLoad (step : Word) :
    Confined (.f :: .memory :: .slots :: (Pair.bc.parts ++ Pair.de.parts ++ Pair.hl.parts)) [.y, .h, .x, .pv, .n] [s.de] s
      (s.blockLoad step) :=
  have hs := (refl [.f, .memory, .slots, .reg .b, .reg .c, .reg .d, .reg .e, .reg .h, .reg .l] [.y, .h, .x, .pv, .n] [s.de]
    s).store s.de (s.readByte s.hl) (by simp) (by simp) (by simp)
  (((hs.setHl _ (by simp) (by simp)).setDe _ (by simp) (by simp)).setBc _ (by simp) (by simp)).setFlags _
    (keeps_szc rfl rfl rfl) (by simp)

theorem of_blockCompare (step : Word) :
    Confined (.f :: (Pair.bc.parts ++ Pair.hl.parts)) [.s, .z, .y, .h, .x, .pv, .n] [] s (s.blockCompare step) :=
  (((refl [.f, .reg .b, .reg .c, .reg .h, .reg .l] _ _ s).setHl _ (by simp) (by simp)).setBc _ (by simp) (by simp)).setFlags
    _ (keeps_c rfl) (by simp)

theorem of_blockIn (step : Word) :
    Confined [.reg .b, .reg .h, .reg .l, .f, .memory, .slots, .ioAnswers, .events, .draws]
      [.s, .z, .y, .h, .x, .pv, .n, .c] [s.hl] s (s.blockIn step) :=
  have hs := ((refl [.reg .b, .reg .h, .reg .l, .f, .memory, .slots, .ioAnswers, .events, .draws]
    [.s, .z, .y, .h, .x, .pv, .n, .c] [s.hl] s).ioRead s.bc (by simp) (by simp) (by simp)).store s.hl s.ioByte (by simp)
      (by simp) (by simp)
  (((hs.setB _ (by simp)).setHl _ (by simp) (by simp)).setFlags _ (all_named _ _) (by simp)).drew (by simp)

theorem of_blockOut (step : Word) :
    Confined [.reg .b, .reg .h, .reg .l, .f, .events, .draws] [.s, .z, .y, .h, .x, .pv, .n, .c] [] s (s.blockOut step) :=
  (((((refl _ _ _ s).setB _ (by simp)).ioWrite _ _ (by simp)).setHl _ (by simp) (by simp)).setFlags _ (all_named _ _)
    (by simp)).drew (by simp)

end

section

variable {P : List Part} {F : List FlagName} {A : List Word} {s u : State}

/-- The end of LDIR, LDDR, CPIR, CPDR: where it repeats, PC and the count of draws change too. -/
theorem branch_rewind (h : Confined P F A s u) (again : Bool) (hf : .f ∈ P) (hy : .y ∈ F) (hx : .x ∈ F) :
    Confined (.pc :: .draws :: P) F A s (if again then u.rewind else u) :=
  have hu := (h.cons .draws).cons .pc
  branch again (hu.rewind (by simp) (by simp [hf]) (by simp) hy hx) hu

/-- The end of INIR, INDR, OTIR, OTDR: where it repeats, PC changes too. -/
theorem branch_jump (h : Confined P F A s u) (again : Bool) (w : Word) :
    Confined (.pc :: P) F A s (if again then u.jump w else u) :=
  have hu := h.cons .pc
  branch again (hu.jump w (by simp)) hu

end

end Confined

/-! ## Every instruction -/

open Confined

/-- R15: what an instruction does before its T-states are spent is confined to the parts and flags its rule names and to the
addresses it stores at. The cases with one meaning but for their operands stand together. -/
theorem exec_confined (i : Instr) (s : State) :
    ∃ n u, exec i s = finish n u ∧ Confined i.touches i.flagsNamed (i.storedAt s) s u := by
  cases i with
  -- Loads
  | ldRegReg | ldRegN | ldRegMemHl | ldRegMemIx | ldRegMemIy | setReg | resReg => exact ⟨_, _, rfl, of_setReg8 ..⟩
  | ldAMemBc | ldAMemDe | ldAMemNn => exact ⟨_, _, rfl, of_setA ..⟩
  | ldMemHlReg | ldMemIxReg | ldMemIyReg | ldMemHlN | ldMemIxN | ldMemIyN | ldMemBcA | ldMemDeA | ldMemNnA | setMemHl
  | setMemIx | setMemIy | resMemHl | resMemIx | resMemIy => exact ⟨_, _, rfl, of_store ..⟩
  | ldMemNnHl | ldMemNnPair | ldMemNnIx | ldMemNnIy => exact ⟨_, _, rfl, of_storeWord ..⟩
  | ldPairNn | ldPairMemNn | incPair | decPair => exact ⟨_, _, rfl, of_setPair ..⟩
  | ldHlMemNn => exact ⟨_, _, rfl, of_setPair s .hl _⟩
  | ldIxNn | ldIxMemNn | incIx | decIx => exact ⟨_, _, rfl, of_setIndex s .ix _⟩
  | ldIyNn | ldIyMemNn | incIy | decIy => exact ⟨_, _, rfl, of_setIndex s .iy _⟩
  | ldSpHl | ldSpIx | ldSpIy => exact ⟨_, _, rfl, of_setSp ..⟩
  | ldIA => exact ⟨_, _, rfl, (refl _ _ _ s).withI _ (.head _)⟩
  | ldRA => exact ⟨_, _, rfl, (refl _ _ _ s).withR _ (.head _)⟩
  -- 8-bit arithmetic
  | addReg | addMemHl | addImm | addMemIx | addMemIy | adcReg | adcMemHl | adcImm | adcMemIx | adcMemIy | subReg | subMemHl
  | subImm | subMemIx | subMemIy | sbcReg | sbcMemHl | sbcImm | sbcMemIx | sbcMemIy | andReg | andMemHl | andImm | andMemIx
  | andMemIy | xorReg | xorMemHl | xorImm | xorMemIx | xorMemIy | orReg | orMemHl | orImm | orMemIx | orMemIy | neg =>
    exact ⟨_, _, rfl, of_setResult ..⟩
  | cpReg | cpMemHl | cpImm | cpMemIx | cpMemIy => exact ⟨_, _, rfl, of_setFlags s _ (all_named _ _)⟩
  | incReg | decReg => exact ⟨_, _, rfl, of_setReg8_setFlags s _ _ _ (keeps_c rfl)⟩
  | incMemHl | incMemIx | incMemIy | decMemHl | decMemIx | decMemIy =>
    exact ⟨_, _, rfl, of_store_setFlags s _ _ _ (keeps_c rfl)⟩
  | daa => exact ⟨_, _, rfl, of_setA_setFlags s _ _ (keeps_n rfl)⟩
  | cpl => exact ⟨_, _, rfl, of_setA_setFlags s _ _ (keeps_szpvc rfl rfl rfl rfl)⟩
  | scf | ccf => exact ⟨_, _, rfl, of_setFlags_drew s _ (keeps_szpv rfl rfl rfl)⟩
  | ldAI | ldAR => exact ⟨_, _, rfl, of_setA_setFlags s _ _ (keeps_c rfl)⟩
  -- 16-bit arithmetic
  | addHlPair => exact ⟨_, _, rfl, of_setHlResult s _ (keeps_szpv rfl rfl rfl)⟩
  | adcHlPair | sbcHlPair => exact ⟨_, _, rfl, of_setHlResult s _ (all_named _ _)⟩
  | addIxPair => exact ⟨_, _, rfl, of_addIndex s .ix _⟩
  | addIyPair => exact ⟨_, _, rfl, of_addIndex s .iy _⟩
  -- Rotates, shifts and bits
  | rlca | rrca | rla | rra => exact ⟨_, _, rfl, of_setA_setFlags s _ _ (keeps_szpv rfl rfl rfl)⟩
  | rlcReg | rrcReg | rlReg | rrReg | slaReg | sraReg | srlReg =>
    exact ⟨_, _, rfl, of_setReg8_setFlags s _ _ _ (all_named _ _)⟩
  | rlcMemHl | rlcMemIx | rlcMemIy | rrcMemHl | rrcMemIx | rrcMemIy | rlMemHl | rlMemIx | rlMemIy | rrMemHl | rrMemIx
  | rrMemIy | slaMemHl | slaMemIx | slaMemIy | sraMemHl | sraMemIx | sraMemIy | srlMemHl | srlMemIx | srlMemIy =>
    exact ⟨_, _, rfl, of_store_setFlags s _ _ _ (all_named _ _)⟩
  | rld | rrd => exact ⟨_, _, rfl, of_rotateDigit ..⟩
  | bitReg | bitMemIx | bitMemIy => exact ⟨_, _, rfl, of_setFlags s _ (keeps_c rfl)⟩
  | bitMemHl => exact ⟨_, _, rfl, of_setFlags_drew s _ (keeps_c rfl)⟩
  -- Block instructions
  | ldi | ldd => exact ⟨_, _, rfl, of_blockLoad ..⟩
  | cpi | cpd => exact ⟨_, _, rfl, of_blockCompare ..⟩
  | ini | ind => exact ⟨_, _, rfl, of_blockIn ..⟩
  | outi | outd => exact ⟨_, _, rfl, of_blockOut ..⟩
  | ldir | lddr => exact ⟨_, _, rfl, (of_blockLoad ..).branch_rewind _ (.head _) (by decide) (by decide)⟩
  | cpir | cpdr => exact ⟨_, _, rfl, (of_blockCompare ..).branch_rewind _ (.head _) (by decide) (by decide)⟩
  | inir | indr => exact ⟨_, _, rfl, (of_blockIn ..).branch_jump ..⟩
  | otir | otdr => exact ⟨_, _, rfl, (of_blockOut ..).branch_jump ..⟩
  -- Jumps, calls and returns
  | jp | jr | jpHl | jpIx | jpIy => exact ⟨_, _, rfl, of_jump ..⟩
  | jpCond | jrCond => exact ⟨_, _, rfl, branch _ (of_jump ..) (refl ..)⟩
  | djnz =>
    have hb := (refl [.reg .b, .pc] [] [] s).setB (s.regs.b - 1) (by simp)
    exact ⟨_, _, rfl, branch _ (hb.jump _ (by simp)) hb⟩
  | call | rst => exact ⟨_, _, rfl, of_callTo ..⟩
  | callCond => exact ⟨_, _, rfl, branch _ (of_callTo ..) (refl ..)⟩
  | ret => exact ⟨_, _, rfl, of_returnTo s⟩
  | retCond => exact ⟨_, _, rfl, branch _ (of_returnTo s) (refl ..)⟩
  | retn | reti => exact ⟨_, _, rfl, of_returnFromInterrupt s⟩
  -- Stack and exchanges
  | pushPair | pushIx | pushIy => exact ⟨_, _, rfl, of_push16 ..⟩
  | popPair => exact ⟨_, _, rfl, of_popped_setStackPair ..⟩
  | popIx => exact ⟨_, _, rfl, of_popped_setIndex s .ix _⟩
  | popIy => exact ⟨_, _, rfl, of_popped_setIndex s .iy _⟩
  | exMemSpHl => exact ⟨_, _, rfl, of_exMemSpHl ..⟩
  | exMemSpIx => exact ⟨_, _, rfl, of_exMemSpIndex s .ix _ _⟩
  | exMemSpIy => exact ⟨_, _, rfl, of_exMemSpIndex s .iy _ _⟩
  | exDeHl => exact ⟨_, _, rfl, of_exDeHl s⟩
  | exAfAf => exact ⟨_, _, rfl, of_exAfAf s⟩
  | exx => exact ⟨_, _, rfl, of_exx s⟩
  -- CPU control
  | nop => exact ⟨_, _, rfl, refl ..⟩
  | halt => exact ⟨_, _, rfl, (refl _ _ _ s).withHalted _ (.head _)⟩
  | di => exact ⟨_, _, rfl, ((refl [.iff1, .iff2] _ _ s).withIff1 false (by simp)).withIff2 false (by simp)⟩
  | ei =>
    have hi := ((refl [.iff1, .iff2, .eiShadow] [] [] s).withIff1 true (by simp)).withIff2 true (by simp)
    exact ⟨_, _, rfl, hi.withEiShadow true (by simp)⟩
  | im0 | im1 | im2 => exact ⟨_, _, rfl, (refl _ _ _ s).withIm _ (.head _)⟩
  -- Input and output
  | inAImm => exact ⟨_, _, rfl, of_inA ..⟩
  | inRegC => exact ⟨_, _, rfl, of_inReg ..⟩
  | outImmA | outCReg => exact ⟨_, _, rfl, of_ioWrite ..⟩

/-- Settles O14: the way up to the instruction's end is confined to what its rule names, and the end spends T-states only. -/
theorem instructionFrame : Obligations.InstructionFrame := by
  intro i s t ht
  obtain ⟨n, u, he, hu⟩ := exec_confined i s
  obtain rfl : u.spend n = t := Host.Outcome.next.inj (he.symm.trans ht)
  have hend := (hu.cons .cycles).spend n (.head _)
  exact ⟨hend.parts, hend.flags, hend.reads⟩

end Sys2Proof

/-! PROOF. What every step keeps (O53), what it counts in R and does to the EI shadow (O46), and what no step changes (O56).
The frame of every instruction and one table of the parts that only certain instructions write give the frame of the CPU step,
and that gives the frame of the machine's step. -/

namespace Sys2Proof

open Sys2Proof.Machine

/-! ## Agreement on a part -/

theorem Part.same_trans {p : Part} {s t u : State} (h : p.same s t) (h' : p.same t u) : p.same s u := by
  cases p with
  | memory => exact ⟨h'.1.trans h.1, fun a => (h'.2 a).trans (h.2 a)⟩
  | _ => exact h'.trans h

/-! ## Which instructions write which control parts -/

/-- Whether the rule of `i` may write this part: each part of the control state and the shadow file has its own few
instructions, the console's parts and the NMI latch have none, and any other part is left open. -/
def Part.writableBy (p : Part) (i : Instr) : Bool :=
  match p with
  | .shadow => decide (i = .exAfAf ∨ i = .exx)
  | .iReg => decide (i = .ldIA)
  | .rReg => decide (i = .ldRA)
  | .im => decide (i = .im0 ∨ i = .im1 ∨ i = .im2)
  | .eiShadow => decide (i = .ei)
  | .nmiPending | .marks | .romBanks | .cart | .powered | .fault | .diag | .frameAcc | .callback | .displayBuffer
  | .runState | .intLine | .busByte | .callbackOff | .asyncOff => false
  | _ => true

/-- Every part an instruction touches is one that it may write. -/
theorem touches_all_writableBy (i : Instr) : i.touches.all (·.writableBy i) = true := by
  cases i with
  | ldPairNn p | ldPairMemNn p | incPair p | decPair p => cases p <;> rfl
  | popPair q => cases q <;> rfl
  | _ => rfl

theorem writableBy_of_touches {i : Instr} {p : Part} (h : p ∈ i.touches) : p.writableBy i = true :=
  List.all_eq_true.1 (touches_all_writableBy i) p h

/-- What an instruction may not write, its execution leaves, but for the cycle count. -/
theorem exec_same {i : Instr} {s t : State} (h : exec i s = .next t) {p : Part} (hc : p ≠ .cycles)
    (hp : p.writableBy i = false) : p.same s t := by
  refine (instructionFrame i s t h).1 p fun hm => ?_
  rcases List.mem_cons.1 hm with he | ht
  · exact hc he
  · rw [writableBy_of_touches ht] at hp
    cases hp

/-! ## System RAM -/

/-- System RAM is in its one canonical form and in its bounds (R52). -/
def RamOk (ram : Memory) : Prop := ram.wf = true ∧ ∀ cell ∈ ram, cell.1 < ramSize

/-- A byte written at any address, accepted or not, keeps RAM so. -/
theorem RamOk.after {ram : Memory} (h : RamOk ram) (a : Word) (v : Byte) : RamOk (ramAfter ram a v) := by
  unfold ramAfter
  split
  · refine ⟨Memory.wf_write _ _ h.1, fun cell hc => ?_⟩
    rcases Memory.mem_write hc with rfl | hm
    · exact Nat.mod_lt _ (by decide)
    · exact h.2 cell hm
  · exact h

/-- Either outcome of a condition keeps RAM so when both do. -/
theorem RamOk.branch {t u : State} (c : Bool) (ht : RamOk t.ram) (hu : RamOk u.ram) :
    RamOk (if c then t else u).ram := by
  cases c
  · exact hu
  · exact ht

/-- An instruction whose rule does not name memory keeps RAM as it is. -/
theorem exec_ramOk_of_untouched {i : Instr} {s : State} (hm : Part.memory ∉ i.touches) (h : RamOk s.ram) :
    ∃ n u, exec i s = finish n u ∧ RamOk u.ram := by
  obtain ⟨n, u, he, hu⟩ := exec_confined i s
  obtain ⟨hram, -⟩ : u.ram = s.ram ∧ _ := hu.parts .memory hm
  exact ⟨n, u, he, hram ▸ h⟩

/-- Every instruction keeps RAM in canonical form and in its bounds: it stores no byte, one, or two. -/
theorem exec_ramOk (i : Instr) {s : State} (h : RamOk s.ram) : ∃ n u, exec i s = finish n u ∧ RamOk u.ram := by
  cases i with
  -- One byte
  | ldMemHlReg | ldMemIxReg | ldMemIyReg | ldMemHlN | ldMemIxN | ldMemIyN | ldMemBcA | ldMemDeA | ldMemNnA | setMemHl
  | setMemIx | setMemIy | resMemHl | resMemIx | resMemIy | incMemHl | incMemIx | incMemIy | decMemHl | decMemIx | decMemIy
  | rlcMemHl | rlcMemIx | rlcMemIy | rrcMemHl | rrcMemIx | rrcMemIy | rlMemHl | rlMemIx | rlMemIy | rrMemHl | rrMemIx
  | rrMemIy | slaMemHl | slaMemIx | slaMemIy | sraMemHl | sraMemIx | sraMemIy | srlMemHl | srlMemIx | srlMemIy | rld | rrd
  | ldi | ldd | ini | ind => exact ⟨_, _, rfl, h.after _ _⟩
  | ldir | lddr | inir | indr => exact ⟨_, _, rfl, .branch _ (h.after _ _) (h.after _ _)⟩
  -- Two bytes
  | ldMemNnHl | ldMemNnPair | ldMemNnIx | ldMemNnIy | exMemSpHl | exMemSpIx | exMemSpIy | pushPair | pushIx | pushIy | call
  | rst => exact ⟨_, _, rfl, (h.after _ _).after _ _⟩
  | callCond => exact ⟨_, _, rfl, .branch _ ((h.after _ _).after _ _) h⟩
  -- None
  | ldPairNn p | ldPairMemNn p | incPair p | decPair p =>
    exact exec_ramOk_of_untouched (by cases p <;> simp [Instr.touches, Pair.parts]) h
  | popPair q => exact exec_ramOk_of_untouched (by cases q <;> simp [Instr.touches, StackPair.parts]) h
  | _ => exact exec_ramOk_of_untouched (by simp [Instr.touches, Pair.parts]) h

/-! ## Opcode fetches -/

theorem lookup_m1 {rows : List Row} {m1 : Nat} {o p1 p2 : Byte} {d : Decoded} (h : lookup rows m1 o p1 p2 = some d) :
    d.m1 = m1 := by
  obtain ⟨row, -, hrow⟩ := List.exists_of_findSome?_eq_some h
  split at hrow
  · obtain ⟨i, -, rfl⟩ := Option.map_eq_some_iff.1 hrow
    rfl
  · cases hrow

theorem orError_ok {found : Option Decoded} {e : DecodeError} {d : Decoded} (h : orError found e = .ok d) :
    found = some d := by
  cases found with
  | none => cases h
  | some d' => exact congrArg some (Except.ok.inj h)

/-- An instruction takes one opcode fetch, or two where CB, DD, ED or FD stands before its opcode (R123). -/
theorem decode_m1 {b0 b1 b2 b3 : Byte} {d : Decoded} (h : decode b0 b1 b2 b3 = .ok d) : d.m1 = 1 ∨ d.m1 = 2 := by
  have indexed : ∀ x p, decodeIndexed x p b1 b2 b3 = .ok d → d.m1 = 2 := fun x p hx => by
    unfold decodeIndexed at hx
    split at hx <;> exact lookup_m1 (orError_ok hx)
  unfold decode at h
  split at h
  · exact .inr (lookup_m1 (orError_ok h))
  · split at h
    · exact .inr (lookup_m1 (orError_ok h))
    · split at h
      · exact .inr (indexed _ _ h)
      · split at h
        · exact .inr (indexed _ _ h)
        · exact .inl (lookup_m1 (orError_ok h))

/-- `r'` is `r` after one or two opcode fetches: bit 7 kept, the low seven bits counted on (R29, R123). -/
def FetchesCounted (r r' : Byte) : Prop :=
  r'.msb = r.msb ∧ (r'.toNat % 128 = (r.toNat + 1) % 128 ∨ r'.toNat % 128 = (r.toNat + 2) % 128)

theorem fetchesCounted_refresh (r : Byte) : FetchesCounted r (refresh r) := ⟨refresh_msb r, .inl (refresh_low r)⟩

theorem fetchesCounted_refresh_refresh (r : Byte) : FetchesCounted r (refresh (refresh r)) := by
  refine ⟨by simp, .inr ?_⟩
  have h := refresh_low r
  rw [refresh_low]
  omega

theorem fetchesCounted_refreshBy {m1 : Nat} (h : m1 = 1 ∨ m1 = 2) (r : Byte) : FetchesCounted r (refreshBy m1 r) := by
  rcases h with rfl | rfl
  · exact fetchesCounted_refresh r
  · exact fetchesCounted_refresh_refresh r

/-! ## The CPU step -/

/-- The parts that an acceptance, a halted step or a fetch changes, whatever the instruction (R510, R511, R515, R530). -/
def boundaryParts : List Part :=
  [.halted, .eiShadow, .nmiPending, .iff1, .iff2, .pc, .sp, .cycles, .rReg, .memory, .slots, .events]

/-- All that a CPU step that goes on can be: the acceptance of an NMI, that of an INT, a halted step, or an instruction. -/
theorem cpuStep_next_cases {s t : State} (h : cpuStep s = .next t) :
    (s.nmiPending = true ∧ t = s.acceptNmi) ∨
    (s.nmiPending = false ∧ s.intCondition = true ∧ ∃ vector n, t = (s.enterInterrupt false vector n).intAck) ∨
    (s.nmiPending = false ∧ s.intCondition = false ∧ s.halted = true ∧ t = s.endShadow.rInc.spend 4) ∨
    (s.nmiPending = false ∧ s.intCondition = false ∧ s.halted = false ∧
      ∃ d, s.decodeAtPc = .ok d ∧ exec d.instr (s.endShadow.fetched d) = .next t) := by
  rcases cpuStep_cases s with ⟨hn, hs⟩ | ⟨hn, hi, hs⟩ | ⟨hn, hi, hh, hs⟩ | ⟨hn, hi, hh, d, hd, hs⟩ | ⟨hn, hi, hh, e, hd, hs⟩
  · exact .inl ⟨hn, Host.Outcome.next.inj (h.symm.trans hs)⟩
  · refine .inr (.inl ⟨hn, hi, ?_⟩)
    rcases acceptInt_cases s with ⟨-, -, ha⟩ | ⟨-, -, ha⟩ | ⟨-, ha⟩ | ⟨-, ha⟩
    · exact ⟨_, _, Host.Outcome.next.inj ((h.symm.trans hs).trans ha)⟩
    · exact absurd ((h.symm.trans hs).trans ha) (by simp)
    · exact ⟨_, _, Host.Outcome.next.inj ((h.symm.trans hs).trans ha)⟩
    · exact ⟨_, _, Host.Outcome.next.inj ((h.symm.trans hs).trans ha)⟩
  · exact .inr (.inr (.inl ⟨hn, hi, hh, Host.Outcome.next.inj (h.symm.trans hs)⟩))
  · exact .inr (.inr (.inr ⟨hn, hi, hh, d, hd, hs.symm.trans h⟩))
  · exact absurd (h.symm.trans hs) (by simp)

/-! Outside the boundary's parts each of these leaves the state. -/

theorem enterInterrupt_same (s : State) (iff2 : Bool) (vector : State → Word) (n : Nat) {p : Part}
    (hp : p ∉ boundaryParts) : p.same s (s.enterInterrupt iff2 vector n) := by
  obtain ⟨-, -, -, -, -, -, -, -, hu⟩ := enterInterrupt_all s iff2 vector n
  have hsub : ∀ q ∈ [Part.halted, .eiShadow, .iff1, .iff2, .pc, .sp, .cycles, .rReg, .memory, .slots],
    q ∈ boundaryParts := by decide
  exact hu p fun hm => hp (hsub p hm)

theorem acceptNmi_same (s : State) {p : Part} (hp : p ∉ boundaryParts) : p.same s s.acceptNmi := by
  have hlatch : p.same s { s with nmiPending := false } := by
    cases p with
    | nmiPending => exact absurd (by decide) hp
    | memory => exact same_memory rfl rfl rfl rfl
    | _ => rfl
  exact Part.same_trans hlatch (enterInterrupt_same _ _ _ _ hp)

theorem intAck_same (s : State) {p : Part} (hp : p ∉ boundaryParts) : p.same s s.intAck := by
  cases p with
  | events => exact absurd (by decide) hp
  | memory => exact same_memory rfl rfl rfl rfl
  | _ => rfl

theorem haltedStep_same (s : State) {p : Part} (hp : p ∉ boundaryParts) : p.same s (s.endShadow.rInc.spend 4) := by
  cases p with
  | eiShadow | rReg | cycles => exact absurd (by decide) hp
  | memory => exact same_memory rfl rfl rfl rfl
  | _ => rfl

theorem fetched_same (s : State) (d : Decoded) {p : Part} (hp : p ∉ boundaryParts) :
    p.same s (s.endShadow.fetched d) := by
  cases p with
  | eiShadow | rReg | pc => exact absurd (by decide) hp
  | memory => exact same_memory rfl rfl rfl rfl
  | _ => rfl

/-- A CPU step changes a part that is not the boundary's only by an instruction that may write it. -/
theorem cpuStep_same {s t : State} (h : cpuStep s = .next t) {p : Part} (hp : p ∉ boundaryParts) :
    p.same s t ∨ ∃ d, s.decodeAtPc = .ok d ∧ p.writableBy d.instr = true := by
  rcases cpuStep_next_cases h with ⟨-, rfl⟩ | ⟨-, -, vector, n, rfl⟩ | ⟨-, -, -, rfl⟩ | ⟨-, -, -, d, hd, he⟩
  · exact .inl (acceptNmi_same s hp)
  · exact .inl (Part.same_trans (enterInterrupt_same s _ vector n hp) (intAck_same _ hp))
  · exact .inl (haltedStep_same s hp)
  · cases hw : p.writableBy d.instr with
    | true => exact .inr ⟨d, hd, hw⟩
    | false =>
      have hc : p ≠ .cycles := by rintro rfl; exact hp (by decide)
      exact .inl (Part.same_trans (fetched_same s d hp) (exec_same he hc hw))

/-- A CPU step keeps RAM in canonical form and in its bounds. -/
theorem cpuStep_ramOk {s t : State} (h : cpuStep s = .next t) (hr : RamOk s.ram) : RamOk t.ram := by
  rcases cpuStep_next_cases h with ⟨-, rfl⟩ | ⟨-, -, vector, n, rfl⟩ | ⟨-, -, -, rfl⟩ | ⟨-, -, -, d, hd, he⟩
  · exact (hr.after _ _).after _ _
  · exact (hr.after _ _).after _ _
  · exact hr
  · obtain ⟨n, u, hu, hok⟩ := exec_ramOk d.instr (s := s.endShadow.fetched d) hr
    obtain rfl : u.spend n = t := Host.Outcome.next.inj (hu.symm.trans he)
    exact hok

/-! ## The EI shadow and R -/

/-- An instruction that begins outside the EI shadow ends in it exactly when it is EI (R33). -/
theorem exec_eiShadow {i : Instr} {s t : State} (h : exec i s = .next t) (hs : s.eiShadow = false) :
    t.eiShadow = true ↔ i = .ei := by
  constructor
  · intro ht
    by_contra hne
    have hsame : t.eiShadow = s.eiShadow := exec_same h (p := .eiShadow) (by decide) (decide_eq_false hne)
    rw [hsame, hs] at ht
    cases ht
  · rintro rfl
    obtain rfl := Host.Outcome.next.inj h
    rfl

/-- An instruction leaves R as its fetch made it, but for LD R,A, which sets it (R217). -/
theorem exec_r {i : Instr} {s t : State} (h : exec i s = .next t) : t.r = s.r ∨ i = .ldRA ∧ t.r = s.regs.a := by
  by_cases hi : i = .ldRA
  · subst hi
    obtain rfl := Host.Outcome.next.inj h
    exact .inr ⟨rfl, rfl⟩
  · exact .inl (exec_same h (p := .rReg) (by decide) (decide_eq_false hi))

/-- A CPU step ends in the EI shadow exactly when it executes EI (R33, R454). -/
theorem cpuStep_eiShadow {s t : State} (h : cpuStep s = .next t) :
    t.eiShadow = true ↔ s.nmiPending = false ∧ s.intCondition = false ∧ s.halted = false ∧
      ∃ d, s.decodeAtPc = .ok d ∧ d.instr = .ei := by
  rcases cpuStep_next_cases h with ⟨hn, rfl⟩ | ⟨hn, hi, vector, n, rfl⟩ | ⟨hn, hi, hh, rfl⟩ | ⟨hn, hi, hh, d, hd, he⟩
  · exact iff_of_false Bool.false_ne_true (by simp [hn])
  · exact iff_of_false Bool.false_ne_true (by simp [hi])
  · exact iff_of_false Bool.false_ne_true (by simp [hh])
  · rw [exec_eiShadow he rfl]
    simp [hn, hi, hh, hd]

/-- A CPU step counts its one or two opcode fetches in R, unless it executes LD R,A (R123, R217). -/
theorem cpuStep_r {s t : State} (h : cpuStep s = .next t) :
    FetchesCounted s.r t.r ∨ ∃ d, s.decodeAtPc = .ok d ∧ d.instr = .ldRA ∧ t.r = s.regs.a := by
  rcases cpuStep_next_cases h with ⟨-, rfl⟩ | ⟨-, -, vector, n, rfl⟩ | ⟨-, -, -, rfl⟩ | ⟨-, -, -, d, hd, he⟩
  · exact .inl (fetchesCounted_refresh s.r)
  · exact .inl (fetchesCounted_refresh s.r)
  · exact .inl (fetchesCounted_refresh s.r)
  · rcases exec_r he with hr | ⟨hi, hr⟩
    · exact .inl (hr ▸ fetchesCounted_refreshBy (decode_m1 hd) s.r)
    · exact .inr ⟨d, hd, hi, hr⟩

/-- Settles O46: the EI shadow and R, each by the cases of the CPU step. -/
theorem shadowAndRefresh : Obligations.ShadowAndRefresh := fun _ _ h => ⟨cpuStep_eiShadow h, cpuStep_r h⟩

/-! ## The frame boundaries -/

/-- The frame loop ends below FRAME_CYCLES, or at a boundary where it found the power flag clear (R62, R542). -/
theorem frameLoop_ends {frameCycles : Nat} (hpos : 0 < frameCycles) (callback : Option Nat) (fuel : Nat) (v : FrameView)
    (hf : v.acc ≤ fuel) :
    (frameLoop frameCycles callback fuel v).acc < frameCycles ∨
      (frameLoop frameCycles callback fuel v).stopped = true ∧ (frameLoop frameCycles callback fuel v).powered = false := by
  induction fuel generalizing v with
  | zero => exact .inl (by simp [frameLoop]; omega)
  | succ fuel ih =>
    by_cases hb : v.acc < frameCycles
    · rw [frameLoop_below _ _ _ _ hb]
      exact .inl hb
    · have hacc : (v.boundary frameCycles callback).acc = v.acc - frameCycles := (boundary_all frameCycles callback v).1
      cases hp : (v.boundary frameCycles callback).powered with
      | true =>
        rw [frameLoop_on _ _ _ _ (by omega) hp]
        exact ih _ (by omega)
      | false =>
        rw [frameLoop_off _ _ _ _ (by omega) hp]
        exact .inr ⟨rfl, hp⟩

/-- After the frame boundaries the count is below FRAME_CYCLES while the console is powered or runs (R62). -/
theorem crossFrames_bound {frameCycles : Nat} (hpos : 0 < frameCycles) (s : State)
    (h : (s.crossFrames frameCycles).runState = .running ∨ (s.crossFrames frameCycles).powered = true) :
    (s.crossFrames frameCycles).frameAcc < frameCycles := by
  rcases frameLoop_ends hpos s.callback s.frameAcc s.frameView (Nat.le_refl _) with hlt | ⟨hstop, hoff⟩
  · exact hlt
  · simp [State.crossFrames, hstop, hoff] at h

/-! ## The machine's step -/

/-- The parts in which the turn of the Run loop differs from its CPU step: `run_state`, the frame counter and what the frame
loop reads and writes (R542, R550, R551). -/
def turnParts : List Part := [.runState, .frameAcc, .powered, .callbackOff, .asyncOff, .events, .draws]

theorem crossFrames_tick_same (s : State) (n frameCycles : Nat) {p : Part} (hp : p ∉ turnParts) :
    p.same s ((s.tick n).crossFrames frameCycles) := by
  cases p with
  | runState | frameAcc | powered | callbackOff | asyncOff | events | draws => exact absurd (by decide) hp
  | memory => exact same_memory rfl rfl rfl rfl
  | _ => rfl

theorem moveMarks_enterRun_same (s : State) {p : Part} (hr : p ≠ .runState) (hm : p ≠ .marks) :
    p.same s s.enterRun.moveMarks := by
  cases p with
  | runState => exact absurd rfl hr
  | marks => exact absurd rfl hm
  | memory => exact same_memory rfl rfl rfl rfl
  | _ => rfl

/-- All that a step that goes on can be: nothing, or a CPU step from the running state with no fault recorded before it, and
the hand-out of its T-states after it. -/
theorem step_next_cases {s t : State} (h : step s = .next t) :
    t = s ∨
    ((s.runState = .running ∨ s.fault = none) ∧
      ∃ u n, cpuStep s.enterRun.moveMarks = .next u ∧ t = (u.tick n).crossFrames Config.frameCycles) := by
  rcases step_cases s with ⟨-, -, hs⟩ | ⟨hr, ⟨u, hu, hs⟩ | ⟨f, -, hs⟩ | ⟨r, -, hs⟩⟩
  · exact .inl (Host.Outcome.next.inj (h.symm.trans hs))
  · exact .inr ⟨hr.imp_right And.right, u, _, hu, Host.Outcome.next.inj (h.symm.trans hs)⟩
  · exact absurd (h.symm.trans hs) (by simp)
  · exact absurd (h.symm.trans hs) (by simp)

/-- A step of the machine changes a part that is neither the boundary's nor the turn's, nor the marks, only by an instruction
that may write it. -/
theorem step_same {s t : State} (h : step s = .next t) {p : Part} (hp : p ∉ .marks :: boundaryParts ++ turnParts) :
    p.same s t ∨ ∃ d, s.decodeAtPc = .ok d ∧ p.writableBy d.instr = true := by
  have hm : p ≠ .marks := by rintro rfl; exact hp (by decide)
  have hr : p ≠ .runState := by rintro rfl; exact hp (by decide)
  have hb : p ∉ boundaryParts := fun hm => hp (by simp [hm])
  have ht : p ∉ turnParts := fun hm => hp (by simp [hm])
  rcases step_next_cases h with rfl | ⟨-, u, n, hu, rfl⟩
  · exact .inl ((Confined.refl [] [] [] t).parts p (by simp))
  · refine (cpuStep_same hu hb).imp_left fun hs => ?_
    exact Part.same_trans (Part.same_trans (moveMarks_enterRun_same s hr hm) hs) (crossFrames_tick_same u n _ ht)

/-- The parts that no step changes (R50, R53, R61, R63, R561). -/
def fixedParts : List Part := [.romBanks, .cart, .callback, .displayBuffer, .intLine, .busByte, .fault, .diag]

/-- No instruction may write them, and no other part of a step does. -/
theorem step_same_fixed {s t : State} (h : step s = .next t) {p : Part} (hp : p ∈ fixedParts) : p.same s t := by
  have hfixed : ∀ q ∈ fixedParts, q ∉ .marks :: boundaryParts ++ turnParts := by decide
  have hnone : ∀ i, ∀ q ∈ fixedParts, q.writableBy i = false := fun i => by simp [fixedParts, Part.writableBy]
  rcases step_same h (hfixed p hp) with hs | ⟨d, -, hw⟩
  · exact hs
  · rw [hnone d.instr p hp] at hw
    cases hw

/-- A step that changes a part in question executes an instruction that may write it. -/
theorem writer_of_changed {s t : State} (h : step s = .next t) {p : Part} (hp : p ∉ .marks :: boundaryParts ++ turnParts)
    (hc : ¬ p.same s t) : ∃ d, s.decodeAtPc = .ok d ∧ p.writableBy d.instr = true :=
  (step_same h hp).resolve_left hc

/-- Settles O56, by the frame of the machine's step. -/
theorem stepLeaves : Obligations.StepLeaves := by
  intro s t h
  have fixed : ∀ p ∈ fixedParts, p.same s t := fun p => step_same_fixed h
  refine ⟨fixed .romBanks (by decide), fixed .cart (by decide), fixed .callback (by decide),
    fixed .displayBuffer (by decide), fixed .intLine (by decide), fixed .busByte (by decide), fixed .fault (by decide),
    fixed .diag (by decide), fun hi => ?_, fun hm => ?_, fun hs => ?_⟩
  · obtain ⟨d, hd, hw⟩ := writer_of_changed h (p := .iReg) (by decide) hi
    exact ⟨d, hd, of_decide_eq_true hw⟩
  · obtain ⟨d, hd, hw⟩ := writer_of_changed h (p := .im) (by decide) hm
    exact ⟨d, hd, of_decide_eq_true hw⟩
  · obtain ⟨d, hd, hw⟩ := writer_of_changed h (p := .shadow) (by decide) hs
    exact ⟨d, hd, of_decide_eq_true hw⟩

/-! ## The invariant -/

/-- A CPU step leaves the marks: they were moved on before it (R601). -/
theorem cpuStep_marks {s t : State} (h : cpuStep s = .next t) : t.marks = s.marks := by
  rcases cpuStep_same h (p := .marks) (by decide) with hs | ⟨d, -, hw⟩
  · exact hs
  · cases hw

/-- A step keeps RAM in canonical form and in its bounds. -/
theorem step_ramOk {s t : State} (h : step s = .next t) (hr : RamOk s.ram) : RamOk t.ram := by
  rcases step_next_cases h with rfl | ⟨-, u, n, hu, rfl⟩
  · exact hr
  · have hok : RamOk u.ram := cpuStep_ramOk hu hr
    exact hok

/-- A step keeps the marks in canonical form. -/
theorem step_marks_wf {s t : State} (h : step s = .next t) (hm : s.marks.wf = true) : t.marks.wf = true := by
  rcases step_next_cases h with rfl | ⟨-, u, n, hu, rfl⟩
  · exact hm
  · have hmoved : u.marks = s.enterRun.stepMarks := cpuStep_marks hu
    exact (congrArg Marks.wf hmoved).trans (stepMarks_wf s.enterRun hm)

/-- Settles O53: what no step changes carries its clauses over, RAM and the marks keep their forms, the frame loop bounds the
count, and a step that runs began with no fault recorded. -/
theorem stepKeepsInvariant : Obligations.StepKeepsInvariant := by
  intro s t hs h
  obtain ⟨hbanks, hcart, -, -, -, -, hfault, hdiag, -⟩ := stepLeaves s t h
  obtain ⟨hwf, hbound⟩ := step_ramOk h ⟨hs.ram_wf, hs.ram_bound⟩
  exact
    { ram_wf := hwf
      ram_bound := hbound
      cart_wf := hcart ▸ hs.cart_wf
      cart_bound := hcart ▸ hs.cart_bound
      banks_mounted := by rw [hbanks, hcart]; exact hs.banks_mounted
      frame_bound := by
        rcases step_next_cases h with rfl | ⟨-, u, n, -, rfl⟩
        · exact hs.frame_bound
        · exact crossFrames_bound (Nat.succ_pos _) _
      running_unfaulted := by
        rcases step_next_cases h with rfl | ⟨hr, -⟩
        · exact hs.running_unfaulted
        · exact fun _ => hfault.trans (hr.elim hs.running_unfaulted id)
      record_length := hfault ▸ hs.record_length
      diag_clear := by rw [hfault, hdiag]; exact hs.diag_clear
      diag_bound := hdiag ▸ hs.diag_bound
      marks_wf := step_marks_wf h hs.marks_wf }

end Sys2Proof

/-! PROOF. The Memory Unit: what every address reads (R77 to R85), what a write does (R86 to R93), and what Mount and PowerOn
set (R71 to R74, R540, R600, R601). -/

namespace Sys2Proof

open Sys2Proof.Machine

/-! ## Address decode -/

/-- A 6-bit index always names an entry of `rom_banks` (R50, R51). -/
theorem romBanks_getElem? (s : State) (k : BitVec 6) : s.romBanks[k.toNat]? = some (s.romEntry k) :=
  Vector.getElem?_eq_getElem k.isLt

/-- The byte at a resolved ROM target, given the offset into its bank. -/
theorem readTarget_rom (s : State) (k : BitVec 6) (addr : Word) {off : Nat} (h : off = addr.toNat % 16384) :
    s.readTarget (.rom (s.romEntry k) off) = romByte s k.toNat addr := by
  subst h
  unfold romByte
  rw [romBanks_getElem?]
  cases s.romEntry k <;> rfl

/-- Settles O1: each range of the decoder is one of the statement's, and its offset is `addr[13:0]`. -/
theorem addressDecode : Obligations.AddressDecode := by
  intro s addr
  split_ifs with h0 h1 h2 h3
  · rw [State.readByte, State.resolve, if_pos (by omega)]
    exact readTarget_rom s 0 addr (by omega)
  · rw [State.readByte, State.resolve, if_neg (by omega), if_pos (by omega)]
    exact readTarget_rom s _ addr (by omega)
  · rw [State.readByte, State.resolve, if_neg (by omega), if_neg (by omega), if_pos (by omega)]
    exact readTarget_rom s _ addr (by omega)
  · rw [State.readByte, State.resolve, if_neg (by omega), if_neg (by omega), if_neg (by omega), if_pos (by omega)]
    exact readTarget_rom s _ addr (by omega)
  · exact readByte_ram s (by omega)

/-! ## Byte writes -/

/-- A store changes system RAM and the windows at most. -/
theorem unchangedBut_store (s : State) (a : Word) (v : Byte) : UnchangedBut [.memory, .slots] s (s.store a v) :=
  ((Confined.refl _ [] [a] s).store a v (by simp) (by simp) (by simp)).parts

/-- No control register lies below RAM. -/
theorem control_of_lt (m : MapSlots) {a : Word} (v : Byte) (h : a.toNat < 0xC000) : m.control a v = m := by
  have hne : ∀ c : Word, 0xC000 ≤ c.toNat → a ≠ c := by rintro c hc rfl; omega
  simp [MapSlots.control, hne]

/-- A store below 0xC000 changes nothing (R86). -/
theorem store_of_lt (s : State) {a : Word} (v : Byte) (h : a.toNat < 0xC000) : s.store a v = s := by
  have hr : ¬ accepts a = true := by rw [accepts_iff]; omega
  simp [State.store, ramAfter, hr, control_of_lt _ v h]

/-- Settles O3: below 0xC000 the store is the identity, from there on it is accepted. -/
theorem byteWrites : Obligations.ByteWrites := by
  intro s a v
  refine ⟨fun h => ?_, fun h => ⟨(accepts_iff a).2 h, stored_store s a v, unchangedBut_store s a v⟩⟩
  have hr : accepts a = false := by rw [← Bool.not_eq_true, accepts_iff]; omega
  exact Prod.ext (store_of_lt s v (by omega)) hr

/-- Settles O2: an address and its partner 0x2000 lower name one RAM byte. -/
theorem mirroredRam : Obligations.MirroredRam := by
  intro s a v h
  have hp : (a - 0x2000).toNat = a.toNat - 0x2000 := BitVec.toNat_sub_of_le (BitVec.le_def.2 (by simpa using by omega))
  have hb : 0xC000 ≤ (a - 0x2000).toNat := by omega
  have ha : 0xC000 ≤ a.toNat := by omega
  have hm : (a - 0x2000).toNat % 0x2000 = a.toNat % 0x2000 := by omega
  refine ⟨?_, (readByte_store s a v _).1 ha hb hm.symm, (readByte_store s a v a).1 ha ha rfl,
    (readByte_store s _ v a).1 hb ha hm, (readByte_store s _ v _).1 hb hb rfl, stored_store s a v⟩
  rw [readByte_ram s ha, readByte_ram s hb]
  exact congrArg s.ram.read hm.symm

/-! ## Words -/

theorem toNat_readWord (s : State) (a : Word) :
    (s.readWord a).toNat = (s.readByte a).toNat + 256 * (s.readByte (a + 1)).toNat := by
  rw [State.readWord, toNat_join, Nat.add_comm]

/-- A double word is two words, the low one first (R85). -/
theorem toNat_readDword (s : State) (a : Word) :
    (s.readDword a).toNat = (s.readWord a).toNat + 65536 * (s.readWord (a + 2)).toNat := by
  rw [State.readDword, BitVec.toNat_append, ← Nat.shiftLeft_add_eq_or_of_lt (s.readWord a).isLt, Nat.shiftLeft_eq]
  omega

/-- A word write changes system RAM and the windows at most. -/
theorem unchangedBut_storeWord (s : State) (a w : Word) : UnchangedBut [.memory, .slots] s (s.storeWord a w) :=
  ((Confined.refl _ [] [a, a + 1] s).storeWord a w (by simp) (by simp) (by simp) (by simp)).parts

/-- Settles O4: each word is two bytes, and a word write is two stores at neighbouring addresses. -/
theorem wordAccess : Obligations.WordAccess := by
  intro s a w
  have h3 : a + 2 + 1 = a + 3 := BitVec.add_assoc a 2 1
  refine ⟨toNat_readWord s a, ?_, stored_storeWord s a w, unchangedBut_storeWord s a w, ?_⟩
  · rw [toNat_readDword, toNat_readWord, toNat_readWord, h3]
    omega
  · rw [← accepts_iff, ← accepts_iff]
    exact Bool.and_eq_true_iff

/-! ## Mount -/

/-- Every entry of the cyclic table is set, entry `j` to bank `j mod n` (R72). -/
theorem bankTable_entry (n : Nat) {j : Nat} (hj : j < 64) :
    ∃ b : Fin 64, (bankTable n)[j]? = some (some b) ∧ b.val = j % n := by
  have hlt : j % n < 64 := Nat.lt_of_le_of_lt (Nat.mod_le j n) hj
  refine ⟨Fin.ofNat 64 (j % n), ?_, Nat.mod_eq_of_lt hlt⟩
  simp [bankTable, hj]

/-- Where the table is filled cyclically, an entry shows the image bank `j mod n`. -/
theorem romByte_of_bankTable {s : State} {n j : Nat} (hb : s.romBanks = bankTable n) (hj : j < 64) (a : Word) :
    romByte s j a = s.cart.bytes.read (j % n * 16384 + a.toNat % 16384) := by
  obtain ⟨b, hentry, hval⟩ := bankTable_entry n hj
  unfold romByte
  rw [hb, hentry, ← hval]

/-- A Mount of a bad size does nothing (R71). -/
theorem mount_of_bad {size : Nat} (h : size = 0 ∨ size % 16384 ≠ 0) (s : State) (data : List Host.Cell) :
    s.mount size data = s := by
  simp only [State.mount, bankSize]
  exact if_pos (by simpa using h)

/-- A Mount of `n` banks sets the table and the image (R72). -/
theorem mount_of_banks {n : Nat} (hn : 0 < n) (s : State) (data : List Host.Cell) :
    s.mount (n * 16384) data =
      { s with
        romBanks := bankTable n
        cart := ⟨n, Memory.ofCells (data.filter fun cell => cell.1 < n * 16384)⟩ } := by
  have hdiv : n * 16384 / bankSize = n := Nat.mul_div_cancel n (by decide)
  rw [State.mount, if_neg (by simp [bankSize]; omega), hdiv]

/-- Settles O5: of the listed cells for an offset in the image none is dropped, and the last counts. -/
theorem mountTable : Obligations.MountTable := by
  intro s size data
  refine ⟨fun h => mount_of_bad h s data, ?_⟩
  rintro n hn rfl
  rw [mount_of_banks hn]
  refine ⟨fun j hj => bankTable_entry n hj, rfl, fun off hoff => ?_, rfl, fun p hp => ?_⟩
  · have hcells : (data.filter fun cell => decide (cell.1 < n * 16384)).filter (fun cell => decide (cell.1 = off)) =
        data.filter fun cell => decide (cell.1 = off) := by
      rw [List.filter_filter]
      refine List.filter_congr fun cell _ => ?_
      by_cases he : cell.1 = off <;> simp [he, hoff]
    rw [Memory.read_ofCells, hcells]
    rfl
  · cases p with
    | romBanks | cart | memory => simp at hp
    | _ => rfl

/-- Settles O6: the write sets the selector, and the window reads the entry it names. -/
theorem windowShowsSelectedBank : Obligations.WindowShowsSelectedBank := by
  rintro s _ n data v a hn rfl
  have hbanks : (s.mount (n * 16384) data).romBanks = bankTable n := by rw [mount_of_banks hn]
  have shown : ∀ (c : Word) {k : Nat}, k = v.toNat % 64 →
      romByte ((s.mount (n * 16384) data).writeByte c v).1 k a =
        (s.mount (n * 16384) data).cart.bytes.read (v.toNat % 64 % n * 16384 + a.toNat % 16384) := by
    rintro c _ rfl
    exact romByte_of_bankTable hbanks (Nat.mod_lt _ (by decide)) a
  refine ⟨?_, ?_, ?_⟩
  · rintro ⟨hlo, hhi⟩
    rw [addressDecode, if_neg (by omega), if_pos hhi]
    exact shown 0xFFFD (control_slot0 _ 0xFFFD v)
  · rintro ⟨hlo, hhi⟩
    rw [addressDecode, if_neg (by omega), if_neg (by omega), if_pos hhi]
    exact shown 0xFFFE (control_slot1 _ 0xFFFE v)
  · rintro ⟨hlo, hhi⟩
    rw [addressDecode, if_neg (by omega), if_neg (by omega), if_neg (by omega), if_pos hhi]
    exact shown 0xFFFF (control_slot2 _ 0xFFFF v)

/-! ## PowerOn -/

/-- Settles O7: every location carries a mark after CpuReset, and RAM with no byte listed reads blank. -/
theorem powerOnState : Obligations.PowerOnState := by
  intro s drawn
  refine ⟨rfl, rfl, rfl, rfl, rfl, rfl, rfl, rfl, rfl, rfl, rfl, fun a ha => readByte_ram _ ha, rfl, rfl, rfl, rfl, rfl,
    rfl, rfl, rfl, rfl, mem_allLocs, fun r => ?_, fun k => ?_, fun p hp => ?_⟩
  · have hall : ∀ r, Loc.reg r ∈ shadowLocs := by intro r; cases r <;> decide
    exact hall r
  · have hall : ∀ k, Loc.flag k ∈ shadowLocs := by intro k; cases k <;> decide
    exact hall k
  · cases p with
    | romBanks | cart | callback | displayBuffer | runState | intLine | busByte | ioAnswers | callbackOff | asyncOff | events
    | draws => rfl
    | reg r => cases r <;> simp at hp
    | _ => simp at hp

end Sys2Proof

/-! PROOF. The host's and the environment's actions, the recording of a fault and the fresh session keep the invariant (R71 to
R74, R502, R503, R540, R545, R603). -/

namespace Sys2Proof

open Sys2Proof.Machine

/-! ## The host's and the environment's actions -/

/-- An action that is defined while Run is idle goes on only to its effect. -/
theorem eq_of_whileIdle {s t u : State} {action : IdleAction} (h : s.whileIdle action u = .next t) : u = t := by
  unfold State.whileIdle at h
  split at h
  · exact Host.Outcome.next.inj h
  · cases h

/-- The image that a Mount leaves is canonical and in its bounds, and every entry of the table names one of its banks. -/
theorem Inv.mount {s : State} (h : Inv s) (size : Nat) (data : List Host.Cell) : Inv (s.mount size data) := by
  by_cases hbad : size = 0 ∨ size % 16384 ≠ 0
  · rw [mount_of_bad hbad]
    exact h
  · obtain ⟨n, rfl⟩ : ∃ n, size = n * 16384 := ⟨size / 16384, by omega⟩
    rw [mount_of_banks (by omega)]
    exact
      { h with
        cart_wf := Memory.wf_ofCells _
        cart_bound := fun cell hc => of_decide_eq_true (List.mem_filter.1 (Memory.mem_ofCells hc)).2
        banks_mounted := fun j b hj => by
          obtain ⟨hlt, -⟩ := Vector.getElem?_eq_some_iff.1 hj
          obtain ⟨b', hentry, hval⟩ := bankTable_entry n hlt
          obtain rfl : b' = b := by simpa using hentry.symm.trans hj
          rw [hval]
          exact Nat.mod_lt _ (by omega) }

/-- The diagnostic buffer always has room for a NUL (R503). -/
theorem diagLen_pos : 0 < Config.diagLen := Nat.succ_pos _

theorem Inv.powerOn {s : State} (h : Inv s) (drawn : DrawnRegisters) : Inv (s.powerOn drawn) :=
  { h with
    ram_wf := rfl
    ram_bound := fun _ hc => absurd hc List.not_mem_nil
    frame_bound := fun _ => Nat.succ_pos _
    running_unfaulted := fun _ => rfl
    record_length := fun _ hrec => absurd hrec (by simp [State.powerOn])
    diag_clear := fun _ => rfl
    diag_bound := ⟨diagLen_pos, List.not_mem_nil⟩
    marks_wf := Marks.reset_wf }

/-- A cleared power flag asks less of the frame count. -/
theorem Inv.powerOff {s : State} (h : Inv s) : Inv s.powerOff :=
  { h with frame_bound := fun hr => h.frame_bound (hr.imp_right fun hp => absurd hp Bool.false_ne_true) }

/-- Every action keeps the invariant; those not named here write nothing that it looks at. -/
theorem Inv.act {s t : State} (h : Inv s) {a : HostAction} (ha : s.act a = .next t) : Inv t := by
  cases a with
  | mount size data =>
    obtain rfl := eq_of_whileIdle ha
    exact h.mount size data
  | powerOn drawn =>
    obtain rfl := eq_of_whileIdle ha
    exact h.powerOn drawn
  | attachDisplay | attachCallback =>
    obtain rfl := eq_of_whileIdle ha
    exact { h with }
  | powerOff =>
    obtain rfl := Host.Outcome.next.inj ha
    exact h.powerOff
  | setIntLine | setBusByte | requestNmi | lineUpIoAnswer | lineUpCallback | lineUpPowerOff =>
    obtain rfl := Host.Outcome.next.inj ha
    exact { h with }

/-! ## The fresh session (R603) -/

theorem inv_session : Inv State.session where
  ram_wf := rfl
  ram_bound := fun _ hc => absurd hc List.not_mem_nil
  cart_wf := rfl
  cart_bound := fun _ hc => absurd hc List.not_mem_nil
  banks_mounted := fun j b hj => by
    obtain ⟨hlt, hb⟩ := Vector.getElem?_eq_some_iff.1 hj
    simp [State.session, State.reset] at hb
  frame_bound := fun _ => Nat.succ_pos _
  running_unfaulted := fun _ => rfl
  record_length := fun _ hrec => absurd hrec (by simp [State.session, State.reset])
  diag_clear := fun _ => rfl
  diag_bound := ⟨diagLen_pos, List.not_mem_nil⟩
  marks_wf := Marks.reset_wf

/-! ## The record of a fault (R502) -/

/-- The opcode of a record is a list of 1 to 4 bytes (R61). -/
def OpcodeFits (rec : FaultRecord) : Prop := 1 ≤ rec.opcode.length ∧ rec.opcode.length ≤ 4

/-- The bytes through the deciding byte are 1 to 4 (R121). -/
theorem opcodeFits_decodeError (pc : Word) (e : DecodeError) : OpcodeFits ⟨pc, e.opcode⟩ := by
  cases e <;> simp [OpcodeFits, DecodeError.opcode]

/-- An acceptance faults with the one byte on the bus (R512). -/
theorem acceptInt_fault_opcodeFits {s : State} {cause : FaultCause} {rec : FaultRecord}
    (h : s.acceptInt = .fault (.unsupportedOpcode cause rec)) : OpcodeFits rec := by
  rcases acceptInt_cases s with ⟨-, -, ha⟩ | ⟨-, -, ha⟩ | ⟨-, ha⟩ | ⟨-, ha⟩
  · cases h.symm.trans ha
  · cases h.symm.trans ha
    simp [OpcodeFits]
  · cases h.symm.trans ha
  · cases h.symm.trans ha

/-- A CPU step faults at an acceptance or at decoding (R500). -/
theorem cpuStep_fault_opcodeFits {s : State} {cause : FaultCause} {rec : FaultRecord}
    (h : cpuStep s = .fault (.unsupportedOpcode cause rec)) : OpcodeFits rec := by
  rcases cpuStep_cases s with ⟨-, hs⟩ | ⟨-, -, hs⟩ | ⟨-, -, -, hs⟩ | ⟨-, -, -, d, -, hs⟩ | ⟨-, -, -, e, -, hs⟩
  · cases h.symm.trans hs
  · exact acceptInt_fault_opcodeFits (hs.symm.trans h)
  · cases h.symm.trans hs
  · obtain ⟨t, ht⟩ := exec_next d.instr (s.endShadow.fetched d)
    cases (h.symm.trans hs).trans ht
  · cases h.symm.trans hs
    exact opcodeFits_decodeError s.pc e

/-- A step faults as its CPU step does. -/
theorem step_fault_opcodeFits {s : State} {cause : FaultCause} {rec : FaultRecord}
    (h : step s = .fault (.unsupportedOpcode cause rec)) : OpcodeFits rec := by
  rcases step_cases s with ⟨-, -, hs⟩ | ⟨-, ⟨t, -, hs⟩ | ⟨f, hf, hs⟩ | ⟨r, -, hs⟩⟩
  · cases h.symm.trans hs
  · cases h.symm.trans hs
  · cases h.symm.trans hs
    exact cpuStep_fault_opcodeFits hf
  · cases h.symm.trans hs

/-! ## The diagnostic text (R503) -/

/-- Four digits for the pc, two for each byte. -/
theorem digits_length (rec : FaultRecord) : rec.digits.length = 4 + 2 * rec.opcode.length := by
  have hbytes : (rec.opcode.map hexByte).flatten.length = 2 * rec.opcode.length := by
    induction rec.opcode with
    | nil => rfl
    | cons v vs ih =>
      rw [List.map_cons, List.flatten_cons, List.length_append, ih, List.length_cons]
      simp [hexByte]
      omega
  rw [FaultRecord.digits, List.length_append, hbytes]
  rfl

/-- Room is left for the NUL: DIAG_LEN is at least the digits of four bytes and one more. -/
theorem text_length_lt {rec : FaultRecord} (h : OpcodeFits rec) : rec.text.length < Config.diagLen := by
  have hdigits := digits_length rec
  have hroom : Config.diagLen = Config.diagSpare + 13 := rfl
  obtain ⟨-, hlen⟩ := h
  rw [FaultRecord.text, List.length_append, List.length_take]
  omega

theorem hexDigit_ne_zero (k : BitVec 4) : hexDigit k ≠ 0 := by revert k; decide

theorem zero_notMem_hexByte (v : Byte) : 0 ∉ hexByte v := by
  simpa [hexByte] using And.intro (hexDigit_ne_zero (highNibble v)).symm (hexDigit_ne_zero (lowNibble v)).symm

theorem zero_notMem_digits (rec : FaultRecord) : 0 ∉ rec.digits := by
  simp only [FaultRecord.digits, hexWord, List.mem_append, List.mem_flatten, List.mem_map, not_or]
  refine ⟨⟨zero_notMem_hexByte _, zero_notMem_hexByte _⟩, ?_⟩
  rintro ⟨_, ⟨v, -, rfl⟩, hz⟩
  exact zero_notMem_hexByte v hz

/-- The wording is cleared of NULs and the digits hold none. -/
theorem zero_notMem_text (rec : FaultRecord) : 0 ∉ rec.text := by
  rw [FaultRecord.text, List.mem_append, not_or]
  exact ⟨fun hz => by simpa using List.mem_of_mem_take hz, zero_notMem_digits rec⟩

/-! ## The recording of a fault -/

/-- The record of a fault keeps the invariant: Run has returned, and the text is that of the record. -/
theorem Inv.recordFault {s : State} (h : Inv s) (cause : FaultCause) {rec : FaultRecord} (hrec : OpcodeFits rec) :
    Inv (s.recordFault cause rec) := by
  cases cause
  all_goals
    exact
      { h with
        frame_bound := fun hr => h.frame_bound (hr.imp_left fun hrun => by cases hrun)
        running_unfaulted := fun hrun => by cases hrun
        record_length := fun rec' he => by
          obtain rfl := Option.some.inj he
          exact hrec
        diag_clear := fun hnone => by cases hnone
        diag_bound := ⟨text_length_lt hrec, zero_notMem_text rec⟩ }

/-- Settles O55: the actions, the record of a step's fault, and the fresh session, each by its lemma. -/
theorem hostKeepsInvariant : Obligations.HostKeepsInvariant := fun _ _ hs =>
  ⟨fun _ ha => hs.act ha, fun cause _ hf => hs.recordFault cause (step_fault_opcodeFits hf), inv_session⟩

end Sys2Proof

/-! PROOF. The rows of the opcode tables (R131 to R135): what each builds is well-formed and encodes to the bytes it was
built from, and which opcode bytes each table has an instruction for. -/

namespace Sys2Proof

open Sys2Proof.Machine

/-! ## The fields of an opcode byte (R128) -/

@[simp] theorem Pair.code_ofCode (c : BitVec 2) : (Pair.ofCode c).code = c := by revert c; decide

@[simp] theorem StackPair.code_ofCode (c : BitVec 2) : (StackPair.ofCode c).code = c := by revert c; decide

@[simp] theorem IxPair.code_ofCode (c : BitVec 2) : (IxPair.ofCode c).code = c := by revert c; decide

@[simp] theorem IyPair.code_ofCode (c : BitVec 2) : (IyPair.ofCode c).code = c := by revert c; decide

@[simp] theorem Cond.code_ofCode (c : BitVec 3) : (Cond.ofCode c).code = c := by revert c; decide

@[simp] theorem JrCond.code_ofCode (c : BitVec 2) : (JrCond.ofCode c).code = c := by revert c; decide

theorem Reg8.code_of_ofCode {c : BitVec 3} {r : Reg8} (h : Reg8.ofCode c = some r) : r.code = c := by
  revert c r; decide

@[simp] theorem code3_toNat (c : BitVec 3) : code3 c.toNat = c := by simp [code3]

@[simp] theorem inThreeBits_toNat (c : BitVec 3) : inThreeBits c.toNat = true := decide_eq_true c.isLt

/-! A byte that has the bits a row fixes is these bits with the row's field between them. -/

theorem eq_of_pairField {o : Byte} {hi : BitVec 2} {lo : BitVec 4} (h : o &&& 0xCF = hi ++ 0#2 ++ lo) :
    o = hi ++ pairField o ++ lo := by
  have hsplit : ∀ b : Byte, b = (b &&& 0xCF).extractLsb' 6 2 ++ pairField b ++ (b &&& 0xCF).extractLsb' 0 4 := by decide
  have hfixed : ∀ (hi : BitVec 2) (lo : BitVec 4),
      (hi ++ 0#2 ++ lo).extractLsb' 6 2 = hi ∧ (hi ++ 0#2 ++ lo).extractLsb' 0 4 = lo := by decide
  obtain ⟨hhi, hlo⟩ := hfixed hi lo
  simpa only [h, hhi, hlo] using hsplit o

theorem eq_of_mid3 {o : Byte} {hi : BitVec 2} {lo : BitVec 3} (h : o &&& 0xC7 = hi ++ 0#3 ++ lo) :
    o = hi ++ mid3 o ++ lo := by
  have hsplit : ∀ b : Byte, b = (b &&& 0xC7).extractLsb' 6 2 ++ mid3 b ++ (b &&& 0xC7).extractLsb' 0 3 := by decide
  have hfixed : ∀ (hi : BitVec 2) (lo : BitVec 3),
      (hi ++ 0#3 ++ lo).extractLsb' 6 2 = hi ∧ (hi ++ 0#3 ++ lo).extractLsb' 0 3 = lo := by decide
  obtain ⟨hhi, hlo⟩ := hfixed hi lo
  simpa only [h, hhi, hlo] using hsplit o

theorem eq_of_low3 {o : Byte} {hi : BitVec 5} (h : o &&& 0xF8 = hi ++ 0#3) : o = hi ++ low3 o := by
  have hsplit : ∀ b : Byte, b = (b &&& 0xF8).extractLsb' 3 5 ++ low3 b := by decide
  have hfixed : ∀ hi : BitVec 5, (hi ++ 0#3).extractLsb' 3 5 = hi := by decide
  simpa only [h, hfixed hi] using hsplit o

theorem eq_of_mid3_low3 {o : Byte} {hi : BitVec 2} (h : o &&& 0xC0 = hi ++ 0#6) : o = hi ++ mid3 o ++ low3 o := by
  have hsplit : ∀ b : Byte, b = (b &&& 0xC0).extractLsb' 6 2 ++ mid3 b ++ low3 b := by decide
  have hfixed : ∀ hi : BitVec 2, (hi ++ 0#6).extractLsb' 6 2 = hi := by decide
  simpa only [h, hfixed hi] using hsplit o

theorem eq_of_jrField {o : Byte} {hi : BitVec 3} {lo : BitVec 3} (h : o &&& 0xE7 = hi ++ 0#2 ++ lo) :
    o = hi ++ jrField o ++ lo := by
  have hsplit : ∀ b : Byte, b = (b &&& 0xE7).extractLsb' 5 3 ++ jrField b ++ (b &&& 0xE7).extractLsb' 0 3 := by decide
  have hfixed : ∀ (hi : BitVec 3) (lo : BitVec 3),
      (hi ++ 0#2 ++ lo).extractLsb' 5 3 = hi ∧ (hi ++ 0#2 ++ lo).extractLsb' 0 3 = lo := by decide
  obtain ⟨hhi, hlo⟩ := hfixed hi lo
  simpa only [h, hhi, hlo] using hsplit o

/-! ## The rows of the tables -/

/-- What a row builds from an opcode byte with its fixed bits is well-formed and encodes to the bytes it was built from,
which `seq` gives in address order; and the opcode byte alone decides whether the row builds anything. -/
structure Row.Faithful (seq : Byte → Byte → Byte → List Byte) (row : Row) : Prop where
  encodes : ∀ {o p1 p2 i}, o &&& row.mask = row.pattern → row.build o p1 p2 = some i →
    i.wellFormed = true ∧ encode i = (seq o p1 p2).take row.len
  decides : ∀ o p1 p2, (row.build o p1 p2).isSome = (row.build o 0 0).isSome

namespace Row.Faithful

section

variable {seq : Byte → Byte → Byte → List Byte} {len : Nat}

/-- The row fixes the whole opcode byte. -/
theorem fixed {c : Byte} {g : Byte → Byte → Instr}
    (h : ∀ p1 p2, (g p1 p2).wellFormed = true ∧ encode (g p1 p2) = (seq c p1 p2).take len) :
    Faithful seq ⟨0xFF, c, len, fun _ p1 p2 => some (g p1 p2)⟩ where
  encodes {o p1 p2 i} ho hi := by
    obtain rfl : o = c := by simpa using (BitVec.and_allOnes (x := o)).symm.trans ho
    obtain rfl := Option.some.inj hi
    exact h p1 p2
  decides _ _ _ := rfl

/-- The row has a pair in bits 5:4. -/
theorem pair (hi : BitVec 2) (lo : BitVec 4) {g : Byte → Byte → Byte → Instr}
    (h : ∀ o p1 p2, (g o p1 p2).wellFormed = true ∧
      encode (g o p1 p2) = (seq (hi ++ pairField o ++ lo) p1 p2).take len) :
    Faithful seq ⟨0xCF, hi ++ 0#2 ++ lo, len, fun o p1 p2 => some (g o p1 p2)⟩ where
  encodes {o p1 p2 i} ho hi := by
    obtain rfl := Option.some.inj hi
    have hg := h o p1 p2
    rwa [← eq_of_pairField ho] at hg
  decides _ _ _ := rfl

/-- The row has a relative jump's condition in bits 4:3. -/
theorem jump (hi : BitVec 3) (lo : BitVec 3) {g : Byte → Byte → Byte → Instr}
    (h : ∀ o p1 p2, (g o p1 p2).wellFormed = true ∧
      encode (g o p1 p2) = (seq (hi ++ jrField o ++ lo) p1 p2).take len) :
    Faithful seq ⟨0xE7, hi ++ 0#2 ++ lo, len, fun o p1 p2 => some (g o p1 p2)⟩ where
  encodes {o p1 p2 i} ho hi := by
    obtain rfl := Option.some.inj hi
    have hg := h o p1 p2
    rwa [← eq_of_jrField ho] at hg
  decides _ _ _ := rfl

/-- The row has a condition, a bit number or a restart number in bits 5:3. -/
theorem mid (hi : BitVec 2) (lo : BitVec 3) {g : Byte → Byte → Byte → Instr}
    (h : ∀ o p1 p2, (g o p1 p2).wellFormed = true ∧
      encode (g o p1 p2) = (seq (hi ++ mid3 o ++ lo) p1 p2).take len) :
    Faithful seq ⟨0xC7, hi ++ 0#3 ++ lo, len, fun o p1 p2 => some (g o p1 p2)⟩ where
  encodes {o p1 p2 i} ho hi := by
    obtain rfl := Option.some.inj hi
    have hg := h o p1 p2
    rwa [← eq_of_mid3 ho] at hg
  decides _ _ _ := rfl

/-- The row has a register in bits 5:3. -/
theorem midReg (hi : BitVec 2) (lo : BitVec 3) {g : Byte → Byte → Reg8 → Instr}
    (h : ∀ r p1 p2, (g p1 p2 r).wellFormed = true ∧
      encode (g p1 p2 r) = (seq (hi ++ r.code ++ lo) p1 p2).take len) :
    Faithful seq ⟨0xC7, hi ++ 0#3 ++ lo, len, fun o p1 p2 => (Reg8.ofCode (mid3 o)).map fun r => g p1 p2 r⟩ where
  encodes {o p1 p2 i} ho hi := by
    obtain ⟨r, hr, rfl⟩ := Option.map_eq_some_iff.1 hi
    have hg := h r p1 p2
    rwa [Reg8.code_of_ofCode hr, ← eq_of_mid3 ho] at hg
  decides _ _ _ := by simp

/-- The row has a register in bits 2:0. -/
theorem lowReg (hi : BitVec 5) {g : Byte → Byte → Reg8 → Instr}
    (h : ∀ r p1 p2, (g p1 p2 r).wellFormed = true ∧ encode (g p1 p2 r) = (seq (hi ++ r.code) p1 p2).take len) :
    Faithful seq ⟨0xF8, hi ++ 0#3, len, fun o p1 p2 => (Reg8.ofCode (low3 o)).map fun r => g p1 p2 r⟩ where
  encodes {o p1 p2 i} ho hi := by
    obtain ⟨r, hr, rfl⟩ := Option.map_eq_some_iff.1 hi
    have hg := h r p1 p2
    rwa [Reg8.code_of_ofCode hr, ← eq_of_low3 ho] at hg
  decides _ _ _ := by simp

/-- The row has a register in bits 2:0 and a bit number in bits 5:3. -/
theorem midLowReg (hi : BitVec 2) {g : Byte → Reg8 → Instr}
    (h : ∀ o r p1 p2, (g o r).wellFormed = true ∧ encode (g o r) = (seq (hi ++ mid3 o ++ r.code) p1 p2).take len) :
    Faithful seq ⟨0xC0, hi ++ 0#6, len, fun o _ _ => (Reg8.ofCode (low3 o)).map fun r => g o r⟩ where
  encodes {o p1 p2 i} ho hi := by
    obtain ⟨r, hr, rfl⟩ := Option.map_eq_some_iff.1 hi
    have hg := h o r p1 p2
    rwa [Reg8.code_of_ofCode hr, ← eq_of_mid3_low3 ho] at hg
  decides _ _ _ := rfl

/-- The row has two registers, in bits 5:3 and in bits 2:0. -/
theorem midRegLowReg (hi : BitVec 2) {g : Reg8 → Reg8 → Instr}
    (h : ∀ r r' p1 p2, (g r r').wellFormed = true ∧ encode (g r r') = (seq (hi ++ r.code ++ r'.code) p1 p2).take len) :
    Faithful seq ⟨0xC0, hi ++ 0#6, len,
      fun o _ _ => (Reg8.ofCode (mid3 o)).bind fun r => (Reg8.ofCode (low3 o)).map fun r' => g r r'⟩ where
  encodes {o p1 p2 i} ho hi := by
    obtain ⟨r, hr, hi⟩ := Option.bind_eq_some_iff.1 hi
    obtain ⟨r', hr', rfl⟩ := Option.map_eq_some_iff.1 hi
    have hg := h r r' p1 p2
    rwa [Reg8.code_of_ofCode hr, Reg8.code_of_ofCode hr', ← eq_of_mid3_low3 ho] at hg
  decides _ _ _ := rfl

end

end Row.Faithful

/-! ## The tables, row by row

Each table's rows by the fields they have, in the table's order, with the bits that a row fixes around its field; what is
left of each is that the encoding of what it builds computes to its bytes. -/

/-- DD or FD (R127). -/
@[simp] def Index.prefixByte : Index → Byte
  | .ix => 0xDD
  | .iy => 0xFD

@[simp] theorem Index.pick_ix (dd fd : Instr) : Index.ix.pick dd fd = dd := rfl

@[simp] theorem Index.pick_iy (dd fd : Instr) : Index.iy.pick dd fd = fd := rfl

theorem baseTable1_faithful (b3 : Byte) : ∀ row ∈ baseTable1, row.Faithful fun o p1 p2 => [o, p1, p2, b3] := by
  simp only [baseTable1, List.forall_mem_cons]
  refine ⟨.fixed ?_, .pair 0b00 0b0001 ?_, .pair 0b00 0b1001 ?_, .fixed ?_, .fixed ?_, .fixed ?_, .fixed ?_, .fixed ?_,
    .fixed ?_, .fixed ?_, .fixed ?_, .pair 0b00 0b0011 ?_, .pair 0b00 0b1011 ?_, .midReg 0b00 0b100 ?_, .fixed ?_,
    .midReg 0b00 0b101 ?_, .fixed ?_, .midReg 0b00 0b110 ?_, .fixed ?_, .fixed ?_, .fixed ?_, .fixed ?_, .fixed ?_,
    .fixed ?_, .fixed ?_, .fixed ?_, .fixed ?_, .fixed ?_, List.forall_mem_nil _⟩
  all_goals
    delta encode Instr.wellFormed
    simp

theorem baseTable2_faithful (b3 : Byte) : ∀ row ∈ baseTable2, row.Faithful fun o p1 p2 => [o, p1, p2, b3] := by
  simp only [baseTable2, List.forall_mem_cons]
  refine ⟨.fixed ?_, .fixed ?_, .jump 0b001 0b000 ?_, .midRegLowReg 0b01 ?_, .midReg 0b01 0b110 ?_, .lowReg 0b01110 ?_,
    .fixed ?_, .lowReg 0b10000 ?_, .fixed ?_, .fixed ?_, .lowReg 0b10001 ?_, .fixed ?_, .fixed ?_, .lowReg 0b10010 ?_,
    .fixed ?_, .fixed ?_, .lowReg 0b10011 ?_, .fixed ?_, .fixed ?_, .lowReg 0b10100 ?_, .fixed ?_, .fixed ?_,
    .lowReg 0b10101 ?_, .fixed ?_, .fixed ?_, .lowReg 0b10110 ?_, .fixed ?_, .fixed ?_, List.forall_mem_nil _⟩
  all_goals
    delta encode Instr.wellFormed
    simp

theorem baseTable3_faithful (b3 : Byte) : ∀ row ∈ baseTable3, row.Faithful fun o p1 p2 => [o, p1, p2, b3] := by
  simp only [baseTable3, List.forall_mem_cons]
  refine ⟨.lowReg 0b10111 ?_, .fixed ?_, .fixed ?_, .mid 0b11 0b000 ?_, .pair 0b11 0b0001 ?_, .fixed ?_, .fixed ?_,
    .fixed ?_, .fixed ?_, .mid 0b11 0b010 ?_, .fixed ?_, .fixed ?_, .fixed ?_, .fixed ?_, .fixed ?_, .fixed ?_,
    .fixed ?_, .mid 0b11 0b100 ?_, .pair 0b11 0b0101 ?_, .fixed ?_, .mid 0b11 0b111 ?_, List.forall_mem_nil _⟩
  all_goals
    delta encode Instr.wellFormed
    simp

theorem baseTable_faithful (b3 : Byte) : ∀ row ∈ baseTable, row.Faithful fun o p1 p2 => [o, p1, p2, b3] :=
  List.forall_mem_append.2
    ⟨List.forall_mem_append.2 ⟨baseTable1_faithful b3, baseTable2_faithful b3⟩, baseTable3_faithful b3⟩

theorem cbTable_faithful : ∀ row ∈ cbTable, row.Faithful fun o p1 p2 => [0xCB, o, p1, p2] := by
  simp only [cbTable, List.forall_mem_cons]
  refine ⟨.lowReg 0b00000 ?_, .fixed ?_, .lowReg 0b00001 ?_, .fixed ?_, .lowReg 0b00010 ?_, .fixed ?_,
    .lowReg 0b00011 ?_, .fixed ?_, .lowReg 0b00100 ?_, .fixed ?_, .lowReg 0b00101 ?_, .fixed ?_, .lowReg 0b00111 ?_,
    .fixed ?_, .midLowReg 0b01 ?_, .mid 0b01 0b110 ?_, .midLowReg 0b10 ?_, .mid 0b10 0b110 ?_, .midLowReg 0b11 ?_,
    .mid 0b11 0b110 ?_, List.forall_mem_nil _⟩
  all_goals
    delta encode Instr.wellFormed
    simp

theorem edTable1_faithful : ∀ row ∈ edTable1, row.Faithful fun o p1 p2 => [0xED, o, p1, p2] := by
  simp only [edTable1, List.forall_mem_cons]
  refine ⟨.midReg 0b01 0b000 ?_, .midReg 0b01 0b001 ?_, .pair 0b01 0b0010 ?_, .pair 0b01 0b1010 ?_,
    .pair 0b01 0b0011 ?_, .pair 0b01 0b1011 ?_, .fixed ?_, .fixed ?_, .fixed ?_, .fixed ?_, .fixed ?_, .fixed ?_,
    .fixed ?_, .fixed ?_, .fixed ?_, .fixed ?_, .fixed ?_, .fixed ?_, .fixed ?_, .fixed ?_, .fixed ?_, .fixed ?_,
    .fixed ?_, .fixed ?_, .fixed ?_, .fixed ?_, .fixed ?_, .fixed ?_, List.forall_mem_nil _⟩
  all_goals
    delta encode Instr.wellFormed
    simp

theorem edTable2_faithful : ∀ row ∈ edTable2, row.Faithful fun o p1 p2 => [0xED, o, p1, p2] := by
  simp only [edTable2, List.forall_mem_cons]
  refine ⟨.fixed ?_, .fixed ?_, .fixed ?_, .fixed ?_, .fixed ?_, .fixed ?_, List.forall_mem_nil _⟩
  all_goals
    delta encode Instr.wellFormed
    simp

theorem edTable_faithful : ∀ row ∈ edTable, row.Faithful fun o p1 p2 => [0xED, o, p1, p2] :=
  List.forall_mem_append.2 ⟨edTable1_faithful, edTable2_faithful⟩

theorem indexTable_faithful (x : Index) :
    ∀ row ∈ indexTable x, row.Faithful fun o p1 p2 => [x.prefixByte, o, p1, p2] := by
  simp only [indexTable, List.forall_mem_cons]
  cases x
  all_goals
    refine ⟨.pair 0b00 0b1001 ?_, .fixed ?_, .fixed ?_, .fixed ?_, .fixed ?_, .fixed ?_, .fixed ?_, .fixed ?_,
      .fixed ?_, .midReg 0b01 0b110 ?_, .lowReg 0b01110 ?_, .fixed ?_, .fixed ?_, .fixed ?_, .fixed ?_, .fixed ?_,
      .fixed ?_, .fixed ?_, .fixed ?_, .fixed ?_, .fixed ?_, .fixed ?_, .fixed ?_, .fixed ?_, List.forall_mem_nil _⟩
    all_goals
      delta encode Instr.wellFormed
      simp

theorem indexCbTable_faithful (x : Index) :
    ∀ row ∈ indexCbTable x, row.Faithful fun o d _ => [x.prefixByte, 0xCB, d, o] := by
  simp only [indexCbTable, List.forall_mem_cons]
  cases x
  all_goals
    refine ⟨.fixed ?_, .fixed ?_, .fixed ?_, .fixed ?_, .fixed ?_, .fixed ?_, .fixed ?_, .mid 0b01 0b110 ?_,
      .mid 0b10 0b110 ?_, .mid 0b11 0b110 ?_, List.forall_mem_nil _⟩
    all_goals
      delta encode Instr.wellFormed
      simp

/-! ## Looking up an opcode -/

/-- The row builds an instruction from this opcode byte; the bits are compared as numbers, which evaluates faster. -/
def Row.selects (row : Row) (o : Byte) : Bool :=
  decide (o.toNat &&& row.mask.toNat = row.pattern.toNat) && (row.build o 0 0).isSome

section

variable {rows : List Row} {seq : Byte → Byte → Byte → List Byte} {m1 : Nat} {o p1 p2 : Byte}

/-- What is looked up in a table of faithful rows is a row's well-formed instruction, and encodes to the row's bytes. -/
theorem lookup_encodes (hrows : ∀ row ∈ rows, row.Faithful seq) {d : Decoded} (h : lookup rows m1 o p1 p2 = some d) :
    d.instr.wellFormed = true ∧ encode d.instr = (seq o p1 p2).take d.len := by
  obtain ⟨row, hmem, hrow⟩ := List.exists_of_findSome?_eq_some h
  split at hrow
  · next ho =>
    obtain ⟨i, hi, rfl⟩ := Option.map_eq_some_iff.1 hrow
    exact (hrows row hmem).encodes ho hi
  · cases hrow

/-- The opcode byte alone decides whether a table of faithful rows has an instruction. -/
theorem lookup_isSome (hrows : ∀ row ∈ rows, row.Faithful seq) :
    (lookup rows m1 o p1 p2).isSome = rows.any fun row => row.selects o := by
  rw [Bool.eq_iff_iff, lookup, List.findSome?_isSome_iff, List.any_eq_true]
  refine exists_congr fun row => and_congr_right fun hmem => ?_
  have hbits : o.toNat &&& row.mask.toNat = row.pattern.toNat ↔ o &&& row.mask = row.pattern := by
    rw [← BitVec.toNat_inj, BitVec.toNat_and]
  rw [Row.selects, ← (hrows row hmem).decides o p1 p2]
  split <;> simp [*]

end

/-! The opcode bytes that each table has an instruction for: R131 has all but those that begin a longer opcode, and the rows
of R136 are those that R132 to R135 do not have. -/

theorem baseTable_selects (o : Byte) :
    (baseTable.any fun row => row.selects o) = true ↔ o ∉ [0xCB, 0xED, 0xDD, 0xFD] := by revert o; decide

theorem cbTable_selects (o : Byte) :
    (cbTable.any fun row => row.selects o) = true ↔ ¬(0x30 ≤ o.toNat ∧ o.toNat ≤ 0x37) := by revert o; decide

theorem edTable_selects (o : Byte) : (edTable.any fun row => row.selects o) = true ↔ o.toNat ∈ edOpcodes := by
  revert o; decide

theorem indexTable_selects (x : Index) (o : Byte) :
    ((indexTable x).any fun row => row.selects o) = true ↔ o.toNat ∈ indexOpcodes := by
  cases x <;> revert o <;> decide

theorem indexCbTable_selects (x : Index) (o : Byte) :
    ((indexCbTable x).any fun row => row.selects o) = true ↔ ¬(o.toNat % 8 ≠ 6 ∨ o = 0x36) := by
  cases x <;> revert o <;> decide

end Sys2Proof

/-! PROOF. The decoder and the encoder (O9, O10, O11, O12). Four bytes are read as a lookup in one table, so that what
decodes is what a row builds, and the fatal sequences are the bytes that their table does not have. -/

namespace Sys2Proof

open Sys2Proof.Machine

/-! ## The decoder as a lookup in one table (R121) -/

/-- How the decoder reads four bytes: in one table of faithful rows, which has an instruction for the opcode byte unless
the bytes are fatal, and with an error that names the bytes of R136. -/
structure Reading (b0 b1 b2 b3 : Byte) where
  rows : List Row
  seq : Byte → Byte → Byte → List Byte
  m1 : Nat
  o : Byte
  p1 : Byte
  p2 : Byte
  error : DecodeError
  decode_eq : decode b0 b1 b2 b3 = orError (lookup rows m1 o p1 p2) error
  faithful : ∀ row ∈ rows, row.Faithful seq
  seq_eq : seq o p1 p2 = [b0, b1, b2, b3]
  selects_iff : (rows.any fun row => row.selects o) = true ↔ ¬Fatal b0 b1 b3
  opcode_eq : Fatal b0 b1 b3 → error.opcode = fatalOpcode b0 b1 b2 b3

/-! The rows of R136, by the first byte. -/

theorem fatal_cb (b1 b3 : Byte) : Fatal 0xCB b1 b3 ↔ 0x30 ≤ b1.toNat ∧ b1.toNat ≤ 0x37 := by simp [Fatal]

theorem fatal_ed (b1 b3 : Byte) : Fatal 0xED b1 b3 ↔ b1.toNat ∉ edOpcodes := by simp [Fatal]

theorem fatal_index (x : Index) {b1 : Byte} (b3 : Byte) (h : b1 ≠ 0xCB) :
    Fatal x.prefixByte b1 b3 ↔ b1.toNat ∉ indexOpcodes := by
  cases x <;> simp [Fatal, show b1 ≠ 203#8 from h]

theorem fatal_indexCb (x : Index) (b3 : Byte) : Fatal x.prefixByte 0xCB b3 ↔ b3.toNat % 8 ≠ 6 ∨ b3 = 0x36 := by
  cases x <;> simp [Fatal]

theorem not_fatal_base {b0 b1 b3 : Byte} (h : b0 ∉ [0xCB, 0xED, 0xDD, 0xFD]) : ¬Fatal b0 b1 b3 := by
  rintro (⟨rfl, -⟩ | ⟨rfl, -⟩ | ⟨rfl | rfl, -⟩ | ⟨rfl | rfl, -⟩)
  all_goals exact absurd h (by decide)

/-- The sequences DD … and FD …: after a CB the final byte is looked up, else the byte after the first. -/
theorem exists_reading_index (x : Index) (b1 b2 b3 : Byte)
    (h : decode x.prefixByte b1 b2 b3 = decodeIndexed x x.prefixByte b1 b2 b3) :
    Nonempty (Reading x.prefixByte b1 b2 b3) := by
  by_cases hcb : b1 = 0xCB
  · subst hcb
    exact ⟨{
      rows := indexCbTable x
      seq := fun o d _ => [x.prefixByte, 0xCB, d, o]
      m1 := 2
      o := b3
      p1 := b2
      p2 := 0
      error := .undefinedIndexedCb x.prefixByte b2 b3
      decode_eq := h
      faithful := indexCbTable_faithful x
      seq_eq := rfl
      selects_iff := (indexCbTable_selects x b3).trans (not_congr (fatal_indexCb x b3)).symm
      opcode_eq := fun _ => by cases x <;> rfl }⟩
  · exact ⟨{
      rows := indexTable x
      seq := fun o p1 p2 => [x.prefixByte, o, p1, p2]
      m1 := 2
      o := b1
      p1 := b2
      p2 := b3
      error := .noIndexedForm x.prefixByte b1
      decode_eq := by rw [h, decodeIndexed, if_neg hcb]
      faithful := indexTable_faithful x
      seq_eq := rfl
      selects_iff := by rw [indexTable_selects, fatal_index x b3 hcb, not_not]
      opcode_eq := fun _ => (if_neg fun hc => hcb hc.1).symm }⟩

theorem exists_reading (b0 b1 b2 b3 : Byte) : Nonempty (Reading b0 b1 b2 b3) := by
  by_cases hcb : b0 = 0xCB
  · subst hcb
    exact ⟨{
      rows := cbTable
      seq := fun o p1 p2 => [0xCB, o, p1, p2]
      m1 := 2
      o := b1
      p1 := b2
      p2 := b3
      error := .undefinedCb b1
      decode_eq := rfl
      faithful := cbTable_faithful
      seq_eq := rfl
      selects_iff := (cbTable_selects b1).trans (not_congr (fatal_cb b1 b3)).symm
      opcode_eq := fun _ => (if_neg (by simp)).symm }⟩
  by_cases hed : b0 = 0xED
  · subst hed
    exact ⟨{
      rows := edTable
      seq := fun o p1 p2 => [0xED, o, p1, p2]
      m1 := 2
      o := b1
      p1 := b2
      p2 := b3
      error := .undefinedEd b1
      decode_eq := rfl
      faithful := edTable_faithful
      seq_eq := rfl
      selects_iff := by rw [edTable_selects, fatal_ed, not_not]
      opcode_eq := fun _ => (if_neg (by simp)).symm }⟩
  by_cases hdd : b0 = 0xDD
  · subst hdd
    exact exists_reading_index .ix b1 b2 b3 rfl
  by_cases hfd : b0 = 0xFD
  · subst hfd
    exact exists_reading_index .iy b1 b2 b3 rfl
  have hbase : b0 ∉ [0xCB, 0xED, 0xDD, 0xFD] := by simpa using ⟨hcb, hed, hdd, hfd⟩
  have hnot : ¬Fatal b0 b1 b3 := not_fatal_base hbase
  exact ⟨{
    rows := baseTable
    seq := fun o p1 p2 => [o, p1, p2, b3]
    m1 := 1
    o := b0
    p1 := b1
    p2 := b2
    error := .undefinedBase b0
    decode_eq := by rw [decode, if_neg hcb, if_neg hed, if_neg hdd, if_neg hfd]
    faithful := baseTable_faithful b3
    seq_eq := rfl
    selects_iff := iff_of_true ((baseTable_selects b0).2 hbase) hnot
    opcode_eq := fun hf => absurd hf hnot }⟩

/-- Settles O10: the decoder answers what its table's row builds. -/
theorem encodeDecode : Obligations.EncodeDecode := by
  intro b0 b1 b2 b3 d h
  obtain ⟨r⟩ := exists_reading b0 b1 b2 b3
  have hd := lookup_encodes r.faithful (orError_ok (r.decode_eq.symm.trans h))
  rwa [r.seq_eq] at hd

theorem orError_error {found : Option Decoded} {e e' : DecodeError} (h : orError found e = .error e') :
    found = none ∧ e' = e := by
  cases found with
  | none => exact ⟨rfl, (Except.error.inj h).symm⟩
  | some d => cases h

theorem exists_orError_error_iff {found : Option Decoded} {e : DecodeError} :
    (∃ e', orError found e = .error e') ↔ ¬found.isSome = true := by
  cases found <;> simp [orError]

/-- Settles O11: the table has no instruction exactly for the fatal bytes, and its error has their opcode. -/
theorem fatalSequences : Obligations.FatalSequences := by
  intro b0 b1 b2 b3
  obtain ⟨r⟩ := exists_reading b0 b1 b2 b3
  have hfatal : (∃ e, decode b0 b1 b2 b3 = .error e) ↔ Fatal b0 b1 b3 := by
    rw [r.decode_eq, exists_orError_error_iff, lookup_isSome r.faithful, r.selects_iff, not_not]
  refine ⟨hfatal, fun e he => ?_⟩
  obtain ⟨-, rfl⟩ := orError_error (r.decode_eq.symm.trans he)
  exact r.opcode_eq (hfatal.1 ⟨_, he⟩)

/-! ## From an instruction to its bytes and back (R121, R123) -/

/-- The opcode fetches of an instruction with this first byte (R123). -/
abbrev fetchesOf (b0 : Byte) : Nat := if b0 ∈ [0xCB, 0xED, 0xDD, 0xFD] then 2 else 1

/-- Four bytes that begin with `bytes` decode to `i`, to their number, and to the opcode fetches. -/
def Decodes (i : Instr) (bytes : List Byte) : Prop :=
  ∀ b0 b1 b2 b3, bytes <+: [b0, b1, b2, b3] → decode b0 b1 b2 b3 = .ok ⟨i, bytes.length, fetchesOf b0⟩

namespace Decodes

/-! An encoding of one to four bytes; the bytes beyond it may be any. -/

variable {i : Instr} {c0 c1 c2 c3 : Byte}

theorem one (h : ∀ b1 b2 b3, decode c0 b1 b2 b3 = .ok ⟨i, 1, fetchesOf c0⟩) : Decodes i [c0] := by
  rintro b0 b1 b2 b3 hp
  obtain ⟨rfl, -⟩ := List.cons_prefix_cons.1 hp
  exact h b1 b2 b3

theorem two (h : ∀ b2 b3, decode c0 c1 b2 b3 = .ok ⟨i, 2, fetchesOf c0⟩) : Decodes i [c0, c1] := by
  rintro b0 b1 b2 b3 hp
  obtain ⟨rfl, rfl, -⟩ : c0 = b0 ∧ c1 = b1 ∧ _ := by simpa only [List.cons_prefix_cons] using hp
  exact h b2 b3

theorem three (h : ∀ b3, decode c0 c1 c2 b3 = .ok ⟨i, 3, fetchesOf c0⟩) : Decodes i [c0, c1, c2] := by
  rintro b0 b1 b2 b3 hp
  obtain ⟨rfl, rfl, rfl, -⟩ : c0 = b0 ∧ c1 = b1 ∧ c2 = b2 ∧ _ := by simpa only [List.cons_prefix_cons] using hp
  exact h b3

theorem four (h : decode c0 c1 c2 c3 = .ok ⟨i, 4, fetchesOf c0⟩) : Decodes i [c0, c1, c2, c3] := by
  rintro b0 b1 b2 b3 hp
  obtain ⟨rfl, rfl, rfl, rfl, -⟩ : c0 = b0 ∧ c1 = b1 ∧ c2 = b2 ∧ c3 = b3 ∧ _ := by
    simpa only [List.cons_prefix_cons] using hp
  exact h

/-- A word stands in the bytes after the opcode, low byte first (R122). -/
theorem word3 {f : Word → Instr} {nn : Word}
    (h : ∀ l h b3, decode c0 l h b3 = .ok ⟨f (join h l), 3, fetchesOf c0⟩) : Decodes (f nn) [c0, lo8 nn, hi8 nn] :=
  three (by simpa only [join_hi8_lo8] using h (lo8 nn) (hi8 nn))

theorem word4 {f : Word → Instr} {nn : Word}
    (h : ∀ l h, decode c0 c1 l h = .ok ⟨f (join h l), 4, fetchesOf c0⟩) : Decodes (f nn) [c0, c1, lo8 nn, hi8 nn] :=
  four (by simpa only [join_hi8_lo8] using h (lo8 nn) (hi8 nn))

end Decodes

/-- By the operands: once the fields of the opcode byte are known, the lookup computes. -/
theorem decodes_encode (i : Instr) (h : i.wellFormed = true) : Decodes i (encode i) := by
  cases i with
  -- No operand, or operands in bytes of their own
  | nop | ldMemBcA | ldMemDeA | ldAMemBc | ldAMemDe | incMemHl | decMemHl | rlca | rrca | rla | rra | daa | cpl
  | scf | ccf | exAfAf | halt | addMemHl | adcMemHl | subMemHl | sbcMemHl | andMemHl | xorMemHl | orMemHl | cpMemHl
  | ret | exx | jpHl | ldSpHl | exMemSpHl | exDeHl | di | ei => exact .one fun _ _ _ => rfl
  | rlcMemHl | rrcMemHl | rlMemHl | rrMemHl | slaMemHl | sraMemHl | srlMemHl | neg | retn | reti | im0 | im1 | im2
  | ldIA | ldRA | ldAI | ldAR | rrd | rld | ldi | cpi | ini | outi | ldd | cpd | ind | outd | ldir | cpir | inir
  | otir | lddr | cpdr | indr | otdr | incIx | decIx | popIx | exMemSpIx | pushIx | jpIx | ldSpIx | incIy | decIy
  | popIy | exMemSpIy | pushIy | jpIy | ldSpIy | ldMemHlN | djnz | jr | addImm | adcImm | subImm | sbcImm | andImm
  | xorImm | orImm | cpImm | outImmA | inAImm => exact .two fun _ _ => rfl
  | incMemIx | decMemIx | addMemIx | adcMemIx | subMemIx | sbcMemIx | andMemIx | xorMemIx | orMemIx | cpMemIx
  | incMemIy | decMemIy | addMemIy | adcMemIy | subMemIy | sbcMemIy | andMemIy | xorMemIy | orMemIy | cpMemIy =>
    exact .three fun _ => rfl
  | rlcMemIx | rrcMemIx | rlMemIx | rrMemIx | slaMemIx | sraMemIx | srlMemIx | rlcMemIy | rrcMemIy | rlMemIy
  | rrMemIy | slaMemIy | sraMemIy | srlMemIy | ldMemIxN | ldMemIyN => exact .four rfl
  -- A word
  | ldMemNnHl | ldMemNnA | ldHlMemNn | ldAMemNn | jp | call => exact .word3 fun _ _ _ => rfl
  | ldIxNn | ldMemNnIx | ldIxMemNn | ldIyNn | ldMemNnIy | ldIyMemNn => exact .word4 fun _ _ => rfl
  -- A field of the opcode byte
  | incReg r | decReg r | ldRegMemHl r | ldMemHlReg r | addReg r | adcReg r | subReg r | sbcReg r | andReg r
  | xorReg r | orReg r | cpReg r => cases r <;> exact .one fun _ _ _ => rfl
  | addHlPair p | incPair p | decPair p | popPair p | pushPair p => cases p <;> exact .one fun _ _ _ => rfl
  | retCond cc => cases cc <;> exact .one fun _ _ _ => rfl
  | ldRegReg r r' => cases r <;> cases r' <;> exact .one fun _ _ _ => rfl
  | rlcReg r | rrcReg r | rlReg r | rrReg r | slaReg r | sraReg r | srlReg r | inRegC r | outCReg r | ldRegN r =>
    cases r <;> exact .two fun _ _ => rfl
  | sbcHlPair p | adcHlPair p | addIxPair p | addIyPair p => cases p <;> exact .two fun _ _ => rfl
  | jrCond k => cases k <;> exact .two fun _ _ => rfl
  | ldRegMemIx r | ldRegMemIy r | ldMemIxReg _ r | ldMemIyReg _ r => cases r <;> exact .three fun _ => rfl
  | ldPairNn p => cases p <;> exact .word3 fun _ _ _ => rfl
  | jpCond cc | callCond cc => cases cc <;> exact .word3 fun _ _ _ => rfl
  | ldPairMemNn p => cases p <;> exact .word4 fun _ _ => rfl
  | ldMemNnPair _ p => cases p <;> exact .word4 (f := (.ldMemNnPair · _)) fun _ _ => rfl
  -- A bit number or a restart number
  | rst t =>
    have ht : t < 8 := of_decide_eq_true h
    interval_cases t <;> exact .one fun _ _ _ => rfl
  | bitMemHl b | resMemHl b | setMemHl b =>
    have hb : b < 8 := of_decide_eq_true h
    interval_cases b <;> exact .two fun _ _ => rfl
  | bitReg b r | resReg b r | setReg b r =>
    have hb : b < 8 := of_decide_eq_true h
    interval_cases b <;> cases r <;> exact .two fun _ _ => rfl
  | bitMemIx b | resMemIx b | setMemIx b | bitMemIy b | resMemIy b | setMemIy b =>
    have hb : b < 8 := of_decide_eq_true h
    interval_cases b <;> exact .four rfl

/-- Settles O9, by the instruction's operands. -/
theorem decodeEncode : Obligations.DecodeEncode := fun i b0 b1 b2 b3 hw => decodes_encode i hw b0 b1 b2 b3

/-- Settles O12: each word is decoded by computation. -/
theorem sampleWords : Obligations.SampleWords := by
  unfold Obligations.SampleWords
  decide

end Sys2Proof

/-! PROOF. The step of a decoded instruction (O40) and the step that faults (O42). -/

namespace Sys2Proof

open Sys2Proof.Machine

/-! ## The instruction at PC (R121, R530) -/

/-- With no interrupt to take and the CPU not halted, the CPU step runs what is decoded at PC. -/
theorem cpuStep_of_decode {s : State} {d : Decoded} (hd : s.decodeAtPc = .ok d) (hn : s.nmiPending = false)
    (hi : s.intCondition = false) (hh : s.halted = false) : cpuStep s = exec d.instr (s.endShadow.fetched d) := by
  rcases cpuStep_cases s with ⟨h, -⟩ | ⟨-, h, -⟩ | ⟨-, -, h, -⟩ | ⟨-, -, -, d', hd', hs⟩ | ⟨-, -, -, e, he, -⟩
  · cases hn.symm.trans h
  · cases hi.symm.trans h
  · cases hh.symm.trans h
  · obtain rfl := Except.ok.inj (hd.symm.trans hd')
    exact hs
  · cases hd.symm.trans he

/-- With no interrupt to take and the CPU not halted, the CPU step faults where nothing is decoded at PC. -/
theorem cpuStep_of_decodeError {s : State} {e : DecodeError} (he : s.decodeAtPc = .error e) (hn : s.nmiPending = false)
    (hi : s.intCondition = false) (hh : s.halted = false) :
    cpuStep s = .fault (.unsupportedOpcode .decode ⟨s.pc, e.opcode⟩) := by
  rcases cpuStep_cases s with ⟨h, -⟩ | ⟨-, h, -⟩ | ⟨-, -, h, -⟩ | ⟨-, -, -, d, hd, -⟩ | ⟨-, -, -, e', he', hs⟩
  · cases hn.symm.trans h
  · cases hi.symm.trans h
  · cases hh.symm.trans h
  · cases he.symm.trans hd
  · obtain rfl := Except.error.inj (he.symm.trans he')
    exact hs

/-! ## The turn of a Run that goes on (R542) -/

section

variable {s t : State} {f : Fault}

/-- Where Run does not return at its entry, a step of the machine is the body of its loop. -/
theorem step_eq_loopBody (hr : s.runState = .running ∨ s.powered = true ∧ s.fault = none) :
    step s = s.enterRun.loopBody Config.frameCycles := by
  rcases turn_cases Config.frameCycles s with ⟨hidle, hend, -⟩ | ⟨-, ht⟩
  · exfalso
    rcases hr with hrun | ⟨hp, hnone⟩
    · cases hidle.symm.trans hrun
    · rcases hend with hoff | hfault
      · cases hp.symm.trans hoff
      · exact hfault hnone
  · exact ht

/-- What the CPU step leaves is handed out and counted. -/
theorem step_of_cpuStep_next (hr : s.runState = .running ∨ s.powered = true ∧ s.fault = none)
    (h : cpuStep s.enterRun.moveMarks = .next t) :
    step s = .next ((t.tick (t.cycles - s.cycles)).crossFrames Config.frameCycles) := by
  rw [step_eq_loopBody hr, State.loopBody, h]
  rfl

theorem step_of_cpuStep_fault (hr : s.runState = .running ∨ s.powered = true ∧ s.fault = none)
    (h : cpuStep s.enterRun.moveMarks = .fault f) : step s = .fault f := by
  rw [step_eq_loopBody hr, State.loopBody, h]

/-- Where Run runs already, entering it changes nothing. -/
theorem enterRun_of_running (h : s.runState = .running) : s.enterRun = s := by
  rw [State.enterRun, ← h]

end

/-! ## The step of a decoded instruction (R530, R601) -/

/-- What an instruction marks does not depend on whether Run is entered. -/
theorem Marks.after_enterRun (m : Marks) (i : Instr) (s : State) : m.after i s.enterRun = m.after i s := by
  cases i <;> rfl

/-- The marks that a step moves on to where it runs what is decoded at PC (R601). -/
theorem stepMarks_of_decode {s : State} {d : Decoded} (hd : s.decodeAtPc = .ok d) (hn : s.nmiPending = false)
    (hi : s.intCondition = false) (hh : s.halted = false) : s.stepMarks = s.marks.after d.instr s := by
  simp [State.stepMarks, hn, hi, hh, hd]

/-- Settles O40: the CPU step is that of the running state under other marks, of which no instruction takes notice. -/
theorem stepRunsDecodedInstruction : Obligations.StepRunsDecodedInstruction := by
  intro s d hd hn hi hh ready
  refine ⟨cpuStep_of_decode hd hn hi hh, fun hr => ?_⟩
  have hmarks : s.enterRun.stepMarks = s.marks.after d.instr s :=
    (stepMarks_of_decode (s := s.enterRun) hd hn hi hh).trans (Marks.after_enterRun s.marks d.instr s)
  have hcpu : cpuStep s.enterRun.moveMarks = exec d.instr (ready.relabel .running (s.marks.after d.instr s)) := by
    rw [← hmarks]
    exact cpuStep_of_decode (s := s.enterRun.moveMarks) hd hn hi hh
  obtain ⟨t, -, ht⟩ := exec_relabel .running (s.marks.after d.instr s) d.instr ready
  exact ⟨_, ht, step_of_cpuStep_next hr (hcpu.trans ht)⟩

/-! ## A step that faults (R500 to R502) -/

/-- Fatal bytes at PC end the step in the fault with their record (R136, R500). -/
theorem step_fatal {s : State} (hr : s.runState = .running ∨ s.powered = true ∧ s.fault = none)
    (hn : s.nmiPending = false) (hi : s.intCondition = false) (hh : s.halted = false)
    (hf : Fatal (s.readByte s.pc) (s.readByte (s.pc + 1)) (s.readByte (s.pc + 3))) :
    step s = .fault (.unsupportedOpcode .decode ⟨s.pc,
      fatalOpcode (s.readByte s.pc) (s.readByte (s.pc + 1)) (s.readByte (s.pc + 2)) (s.readByte (s.pc + 3))⟩) := by
  obtain ⟨hfatal, hopcode⟩ :=
    fatalSequences (s.readByte s.pc) (s.readByte (s.pc + 1)) (s.readByte (s.pc + 2)) (s.readByte (s.pc + 3))
  obtain ⟨e, he⟩ := hfatal.2 hf
  rw [← hopcode e he]
  exact step_of_cpuStep_fault hr (cpuStep_of_decodeError (s := s.enterRun.moveMarks) he hn hi hh)

/-- Run, entered or going on, returns with the record where the step faults (R502, R542). -/
theorem runLoop_of_step_fault {s : State} {cause : FaultCause} {rec : FaultRecord}
    (hr : s.runState = .running ∨ s.powered = true ∧ s.fault = none)
    (h : step s = .fault (.unsupportedOpcode cause rec)) (fuel : Nat) :
    runLoop .draw Config.frameCycles (fuel + 1) s.enterRun = .returned (s.recordFault cause rec) := by
  have hbody : s.enterRun.loopBody Config.frameCycles = .fault (.unsupportedOpcode cause rec) :=
    (step_eq_loopBody hr).symm.trans h
  have hrec : s.enterRun.recordFault cause rec = s.recordFault cause rec := by cases cause <;> rfl
  rw [runLoop, hbody, ← hrec]
  rfl

/-- A call of Run enters its loop unless the power flag is clear or a fault is recorded (R546). -/
theorem run_of_idle {s : State} (hr : s.runState = .running ∨ s.powered = true ∧ s.fault = none)
    (hidle : s.runState = .idle) (setting : UnwrittenRead) (frameCycles fuel : Nat) :
    run setting frameCycles fuel s = runLoop setting frameCycles fuel s.enterRun := by
  obtain ⟨hp, hnone⟩ := hr.resolve_left (by simp [hidle])
  simp [run, hidle, State.runReturnsAtOnce, hp, hnone]

/-- The recording of a fault changes the record, its text, `run_state`, and what the rules leave open (R501, R502). -/
theorem recordFault_unchangedBut (s : State) (cause : FaultCause) (rec : FaultRecord) :
    UnchangedBut ((if cause = .busByte then [.iff1, .iff2, .halted] else []) ++
      [.pc, .rReg, .fault, .diag, .runState, .draws]) s (s.recordFault cause rec) := by
  intro p hp
  cases p with
  | memory => cases cause <;> exact same_memory rfl rfl rfl rfl
  | pc | rReg | fault | diag | runState | draws => simp at hp
  | iff1 | iff2 | halted =>
    cases cause with
    | decode => rfl
    | busByte => simp at hp
  | _ => cases cause <;> rfl

theorem recordFault_record (s : State) (cause : FaultCause) (rec : FaultRecord) :
    (s.recordFault cause rec).fault = some rec ∧ (s.recordFault cause rec).diagnostic ≠ none ∧
      (s.recordFault cause rec).runState = .idle := by
  cases cause
  all_goals exact ⟨rfl, Option.some_ne_none _, rfl⟩

/-- Settles O42: fatal bytes by the decoder's fatal sequences, and what Run leaves by the recording of the fault. -/
theorem fatalStep : Obligations.FatalStep := by
  intro s hr
  refine ⟨step_fatal hr, fun cause rec h => ?_⟩
  obtain ⟨hrec, htext, hidle⟩ := recordFault_record s cause rec
  refine ⟨s.recordFault cause rec, hrec, htext, hidle, recordFault_unchangedBut s cause rec, fun fuel =>
    ⟨fun hi => ?_, fun hrun => ?_⟩⟩
  · rw [run_of_idle hr hi, runLoop_of_step_fault hr h]
  · rw [← runLoop_of_step_fault hr h fuel, enterRun_of_running hrun]

end Sys2Proof

/-! PROOF. The loads, the stores and the special registers (R200 to R229, R450 to R457). Each instruction of a family ends in
one operation that the family shares: what the operation does is said once, and the frame comes from O14. -/

namespace Sys2Proof

open Sys2Proof.Machine

/-! ## What each shared operation completes with -/

section

variable {i : Instr} {s : State} {n : Nat}

/-- An instruction completes with its own frame: it changes what `touches` lists for it (R15). -/
theorem completes_touches {u : State} {post : State → Prop} (he : exec i s = finish n u) (hc : u.cycles = s.cycles)
    (hp : post (u.spend n)) : Completes i s n i.touches post :=
  have ⟨hframe, _, _⟩ := instructionFrame i s (u.spend n) he
  completes_finish u he hc hframe hp

theorem completes_setReg8 {r : Reg8} {v : Byte} (he : exec i s = finish n (s.setReg8 r v)) :
    Completes i s n i.touches fun t => t.reg8 r = v :=
  completes_touches he rfl (RegFile.get_set_same s.regs r v)

/-- Both halves of a pair are written (R21). -/
theorem pair_setPair (s : State) (p : Pair) (w : Word) : (s.setPair p w).pair p = w := by
  cases p with
  | sp => rfl
  | _ => exact join_hi8_lo8 w

theorem pair_spend (s : State) (n : Nat) (p : Pair) : (s.spend n).pair p = s.pair p := by
  cases p <;> rfl

theorem completes_setPair {p : Pair} {w : Word} (he : exec i s = finish n (s.setPair p w)) :
    Completes i s n i.touches fun t => t.pair p = w :=
  have hc : (s.setPair p w).cycles = s.cycles := by cases p <;> rfl
  completes_touches he hc ((pair_spend _ n p).trans (pair_setPair s p w))

/-- Spending T-states leaves every read as it is. -/
theorem readByte_spend (s : State) (n : Nat) (a : Word) : (s.spend n).readByte a = s.readByte a :=
  readByte_congr rfl rfl rfl rfl a

theorem completes_store {a : Word} {v : Byte} (he : exec i s = finish n (s.store a v)) :
    Completes i s n i.touches (Stored [(a, v)] s) :=
  completes_touches he rfl ((stored_store s a v).congr (readByte_spend _ n) rfl)

theorem completes_storeWord {a w : Word} (he : exec i s = finish n (s.storeWord a w)) :
    Completes i s n i.touches
      (Stored [(a, BitVec.ofNat 8 (w.toNat % 256)), (a + 1, BitVec.ofNat 8 (w.toNat / 256))] s) :=
  completes_touches he rfl ((stored_storeWord s a w).congr (readByte_spend _ n) rfl)

/-- The flags of LD A,I and LD A,R, with S as the sign bit of the byte (R214, R215). -/
theorem loadIrFlags_eq (old : FlagBits) (v : Byte) (iff2 : Bool) :
    loadIrFlags old v iff2 =
      { s := v.msb, z := v == 0, y := v.getLsbD 5, h := false, x := v.getLsbD 3, pv := iff2, n := false, c := old.c } := by
  rw [BitVec.msb_eq_getLsbD_last]
  rfl

theorem completes_loadIr {v : Byte} (he : exec i s = finish n (s.loadIr v)) :
    Completes i s n i.touches fun t => t.reg8 .a = v ∧ t.flags =
      { s := v.msb, z := v == 0, y := v.getLsbD 5, h := false, x := v.getLsbD 3, pv := s.iff2, n := false,
        c := s.flags.c } :=
  completes_touches he rfl ⟨rfl, (State.flags_setFlags (s.setA v) _).trans (loadIrFlags_eq ..)⟩

end

/-! ## 8-bit loads and stores -/

/-- Settles O15: every form writes one register, with the byte its operand names. -/
theorem loadRegister : Obligations.LoadRegister := by
  intro s r
  refine ⟨fun src => ?ldRegReg, fun n => ?ldRegN, ?ldRegMemHl, fun d => ?ldRegMemIx, fun d => ?ldRegMemIy, ?ldAMemBc,
    ?ldAMemDe, fun nn => ?ldAMemNn⟩
  all_goals exact completes_setReg8 rfl

/-- Settles O16: every form is one store. -/
theorem storeRegister : Obligations.StoreRegister := by
  intro s
  refine ⟨fun r => ?ldMemHlReg, fun r d => ?ldMemIxReg, fun r d => ?ldMemIyReg, fun n => ?ldMemHlN, fun d n => ?ldMemIxN,
    fun d n => ?ldMemIyN, ?ldMemBcA, ?ldMemDeA, fun nn => ?ldMemNnA⟩
  all_goals exact completes_store rfl

/-! ## I, R, the enables, the interrupt mode and HALT -/

/-- Settles O17: LD A,I and LD A,R share one operation, and each of the others writes its own fields. -/
theorem specialRegisters : Obligations.SpecialRegisters := by
  intro s
  refine ⟨?ldAI, ?ldAR, ?ldIA, ?ldRA, ?nop, ?halt, ?di, ?ei, ?im0, ?im1, ?im2⟩
  case ldAI | ldAR => exact completes_loadIr rfl
  case nop => exact completes_touches rfl rfl trivial
  case di => exact completes_touches rfl rfl ⟨rfl, rfl⟩
  case ei => exact completes_touches rfl rfl ⟨rfl, rfl, rfl⟩
  case ldIA | ldRA | halt | im0 | im1 | im2 => exact completes_touches rfl rfl rfl

/-! ## 16-bit loads and stores -/

/-- Settles O18: the word that the statement spells out is ReadWord's (R84); each form writes one pair or index register. -/
theorem loadWord : Obligations.LoadWord := by
  intro s nn word
  have hword : word = s.readWord nn := (readWord_eq s nn).symm
  rw [hword]
  refine ⟨fun p => ?ldPairNn, ?ldIxNn, ?ldIyNn, ?ldHlMemNn, fun p => ?ldPairMemNn, ?ldIxMemNn, ?ldIyMemNn, ?ldSpHl,
    ?ldSpIx, ?ldSpIy⟩
  case ldPairNn | ldPairMemNn => exact completes_setPair rfl
  case ldHlMemNn => exact completes_setPair (p := .hl) rfl
  case ldSpHl | ldSpIx | ldSpIy => exact completes_setPair (p := .sp) rfl
  case ldIxNn | ldIyNn | ldIxMemNn | ldIyMemNn => exact completes_touches rfl rfl rfl

/-- Settles O19: every form is one word written at `nn`. -/
theorem storeWord : Obligations.StoreWord := by
  intro s nn bytes
  refine ⟨?ldMemNnHl, fun p => ?ldMemNnPair, ?ldMemNnIx, ?ldMemNnIy⟩
  all_goals exact completes_storeWord rfl

end Sys2Proof

/-! PROOF. The 8-bit arithmetic and logic (R250 to R271). Each instruction of a family ends in one operation on A or on one
place: that operation's result and flags are said once as arithmetic, and the frame comes with the operation. -/

namespace Sys2Proof

open Sys2Proof.Machine

/-! ## What each shared operation completes with -/

/-- Less may be said of the state an instruction completes in. -/
theorem Completes.mono {i : Instr} {s : State} {n : Nat} {P : List Part} {post post' : State → Prop}
    (h : Completes i s n P post) (himp : ∀ t, post t → post' t) : Completes i s n P post' :=
  have ⟨t, he, hc, hf, hp⟩ := h
  ⟨t, he, hc, hf, himp t hp⟩

section

variable {i : Instr} {s : State} {n : Nat}

/-- An instruction changes what the operation before its end is confined to (R15). -/
theorem completes_confined {P : List Part} {F : List FlagName} {A : List Word} {u : State} {post : State → Prop}
    (he : exec i s = finish n u) (hu : Confined P F A s u) (hc : u.cycles = s.cycles) (hp : post (u.spend n)) :
    Completes i s n P post :=
  completes_finish u he hc ((hu.cons .cycles).spend n (.head _)).parts hp

theorem flags_setResult (s : State) (r : Byte × FlagBits) : (s.setResult r).flags = r.2 :=
  State.flags_setFlags (s.setA r.1) r.2

theorem flags_spend (s : State) (n : Nat) : (s.spend n).flags = s.flags := rfl

/-- An operation that ends in A and the flags, with what it computes written in another way. -/
theorem completes_setResult {r r' : Byte × FlagBits} (he : exec i s = finish n (s.setResult r)) (hr : r = r') :
    Completes i s n [.reg .a, .f] fun t => t.reg8 .a = r'.1 ∧ t.flags = r'.2 := by
  subst hr
  exact completes_confined he (.of_setResult s r) rfl ⟨rfl, flags_setResult s r⟩

/-- An operation that ends in the flags alone. -/
theorem completes_setFlags {b : FlagBits} (he : exec i s = finish n (s.setFlags b)) :
    Completes i s n [.f] fun t => t.flags = b :=
  completes_confined he (.of_setFlags s b (Confined.all_named _ _)) rfl (State.flags_setFlags s b)

/-- CCF and SCF: the carry and H as given, N clear, Y and X whatever is drawn (R268, R269). -/
theorem completes_drawCarry {h c : Bool} (he : exec i s = finish n (s.drawCarry h c)) :
    Completes i s n [.f, .draws] fun t => ∃ y x, t.flags = { s.flags with h := h, n := false, c := c, y := y, x := x } :=
  completes_confined he (.of_setFlags_drew s _ (Confined.all_named _ _)) rfl ⟨_, _, State.flags_setFlags s _⟩

end

/-! ## The eight operations in the four operand forms (R250) -/

/-- What each of the eight operations does with A and the operand's byte. -/
def AluOp.onAcc : AluOp → State → Byte → State
  | .add => State.accAdd
  | .adc => State.accAdc
  | .sub => State.accSub
  | .sbc => State.accSbc
  | .and => State.accAnd
  | .xor => State.accXor
  | .or => State.accOr
  | .cp => State.accCp

/-- Every form of an operation is the operation on the form's byte. -/
theorem exec_aluInstr (op : AluOp) (o : Operand) (s : State) :
    exec (op.instr o) s = finish o.tStates (op.onAcc s (o.value s)) := by
  cases o with
  | reg | hl | imm => cases op <;> rfl
  | idx x => cases x <;> cases op <;> rfl

/-- Settles O20: ADD is the adder without a carry in, ADC the adder with F.C. -/
theorem addBytes : Obligations.AddBytes := by
  intro s o withCarry
  cases withCarry with
  | false => exact completes_setResult (exec_aluInstr .add o s) (add8_eq ..)
  | true => exact completes_setResult (exec_aluInstr .adc o s) (add8_eq ..)

/-- Settles O21: SUB is the subtractor without a borrow in, SBC the subtractor with F.C, and CP keeps of SUB the flags but Y
and X. -/
theorem subtractBytes : Obligations.SubtractBytes := by
  intro s o a v res flags
  refine ⟨?sub, ?sbc, ?cp⟩
  case sub => exact completes_setResult (exec_aluInstr .sub o s) (sub8_eq ..)
  case sbc => exact completes_setResult (exec_aluInstr .sbc o s) (sub8_eq ..)
  case cp =>
    have h := completes_setFlags (exec_aluInstr .cp o s)
    rw [sub8_eq] at h
    exact h

/-- The flags of AND, OR and XOR, with S as the sign bit and P/V as a count (R255 to R257). -/
theorem logicFlags_eq (res : Byte) (h : Bool) :
    logicFlags res h =
      { s := res.msb, z := res == 0, y := res.getLsbD 5, h := h, x := res.getLsbD 3, pv := evenOnes res, n := false,
        c := false } := by
  rw [← parity_eq, BitVec.msb_eq_getLsbD_last]
  rfl

/-- A bitwise operation into A, with its flags. -/
theorem completes_logic {i : Instr} {s : State} {n : Nat} {res v : Byte} {h : Bool} (bitOp : Bool → Bool → Bool)
    (hbits : ∀ k, k < 8 → res.getLsbD k = bitOp (s.regs.a.getLsbD k) (v.getLsbD k))
    (he : exec i s = finish n (s.setResult (res, logicFlags res h))) :
    Completes i s n [.reg .a, .f] fun t =>
      (∀ k, k < 8 → (t.reg8 .a).getLsbD k = bitOp (s.regs.a.getLsbD k) (v.getLsbD k)) ∧ t.flags =
        { s := (t.reg8 .a).msb, z := t.reg8 .a == 0, y := (t.reg8 .a).getLsbD 5, h := h, x := (t.reg8 .a).getLsbD 3,
          pv := evenOnes (t.reg8 .a), n := false, c := false } :=
  (completes_setResult he rfl).mono fun t ⟨ha, hf⟩ => by
    rw [ha]
    exact ⟨hbits, hf.trans (logicFlags_eq res h)⟩

/-- Settles O22: the three operations differ in what they do with each bit, and AND in H. -/
theorem logicBytes : Obligations.LogicBytes := by
  intro s o op post
  refine ⟨?and, ?or, ?xor⟩
  case and =>
    rintro rfl
    exact completes_logic (· && ·) (fun _ _ => BitVec.getLsbD_and) (exec_aluInstr .and o s)
  case or =>
    rintro rfl
    exact completes_logic (· || ·) (fun _ _ => BitVec.getLsbD_or) (exec_aluInstr .or o s)
  case xor =>
    rintro rfl
    exact completes_logic (· ^^ ·) (fun _ _ => BitVec.getLsbD_xor) (exec_aluInstr .xor o s)

/-! ## Increment and decrement at a place (R259 to R264) -/

/-- Writing a byte at a place. -/
def Place.put (p : Place) (s : State) (v : Byte) : State :=
  match p with
  | .reg r => s.setReg8 r v
  | .hl => s.store s.hl v
  | .idx x d => s.store (s.ea x d) v

/-- A byte written at a place, and flags: nothing else is touched. -/
theorem completes_put {i : Instr} {s : State} {n : Nat} {p : Place} {v : Byte} {b : FlagBits}
    (he : exec i s = finish n ((p.put s v).setFlags b)) :
    Completes i s n (.f :: p.parts) fun t => p.Holds v s t ∧ t.flags = b := by
  have hflags : (((p.put s v).setFlags b).spend n).flags = b := State.flags_setFlags (p.put s v) b
  have hstored (a : Word) : Stored [(a, v)] s (((s.store a v).setFlags b).spend n) :=
    (stored_store s a v).congr (readByte_congr rfl rfl rfl rfl) rfl
  cases p with
  | reg r =>
    have hreg : Confined [.f, .reg r] [.s, .z, .y, .h, .x, .pv, .n, .c] [] s (s.setReg8 r v) :=
      (Confined.refl _ _ _ s).setReg8 r v (by simp)
    have hheld : (((s.setReg8 r v).setFlags b).spend n).reg8 r = v :=
      (RegFile.get_with_f ..).trans (RegFile.get_set_same s.regs r v)
    exact completes_confined he (hreg.setFlags b (Confined.all_named _ _) (.head _)) rfl ⟨hheld, hflags⟩
  | hl =>
    exact completes_confined he (.of_store_setFlags s s.hl v b (Confined.all_named _ _)) rfl ⟨hstored _, hflags⟩
  | idx x d =>
    exact completes_confined he (.of_store_setFlags s (s.ea x d) v b (Confined.all_named _ _)) rfl ⟨hstored _, hflags⟩

theorem exec_incInstr (p : Place) (s : State) :
    exec (incInstr p) s = finish (p.cost 4 11 23) ((p.put s (p.value s + 1)).setFlags (incFlags s.flags (p.value s))) := by
  cases p with
  | reg | hl => rfl
  | idx x => cases x <;> rfl

theorem exec_decInstr (p : Place) (s : State) :
    exec (decInstr p) s = finish (p.cost 4 11 23) ((p.put s (p.value s - 1)).setFlags (decFlags s.flags (p.value s))) := by
  cases p with
  | reg | hl => rfl
  | idx x => cases x <;> rfl

theorem byte_add_one (v : Byte) : v + 1 = BitVec.ofNat 8 (v.toNat + 1) := by
  bv_omega

theorem byte_sub_one (v : Byte) : v - 1 = BitVec.ofNat 8 (v.toNat + 255) := by
  bv_omega

/-- 0x7F is the one byte whose signed successor is no byte. -/
theorem overflow_inc (v : Byte) : (v == 0x7F) = leavesByte (v.toInt + 1) := by
  revert v; decide

/-- 0x80 is the one byte whose signed predecessor is no byte. -/
theorem overflow_dec (v : Byte) : (v == 0x80) = leavesByte (v.toInt - 1) := by
  revert v; decide

theorem incFlags_eq (old : FlagBits) (v : Byte) :
    incFlags old v =
      let up := BitVec.ofNat 8 (v.toNat + 1)
      { s := up.msb, z := up == 0, y := up.getLsbD 5, h := decide (v.toNat % 16 = 15), x := up.getLsbD 3,
        pv := leavesByte (v.toInt + 1), n := false, c := old.c } := by
  simp only [← byte_add_one, ← overflow_inc, BitVec.msb_eq_getLsbD_last]
  rfl

theorem decFlags_eq (old : FlagBits) (v : Byte) :
    decFlags old v =
      let down := BitVec.ofNat 8 (v.toNat + 255)
      { s := down.msb, z := down == 0, y := down.getLsbD 5, h := decide (v.toNat % 16 = 0), x := down.getLsbD 3,
        pv := leavesByte (v.toInt - 1), n := true, c := old.c } := by
  simp only [← byte_sub_one, ← overflow_dec, BitVec.msb_eq_getLsbD_last]
  rfl

/-- Settles O23: INC and DEC put the successor or the predecessor where the byte was. -/
theorem incrementByte : Obligations.IncrementByte := by
  intro s p v up down
  have hinc := completes_put (exec_incInstr p s)
  have hdec := completes_put (exec_decInstr p s)
  rw [byte_add_one, incFlags_eq] at hinc
  rw [byte_sub_one, decFlags_eq] at hdec
  exact ⟨hinc, hdec⟩

/-! ## Decimal adjust (R265) -/

/-- DAA's correction as a number. -/
theorem daa_diff (high low : Bool) :
    ((if high then 0x60 else 0) + (if low then 0x06 else 0) : Byte) =
      BitVec.ofNat 8 (96 * high.toNat + 6 * low.toNat) := by
  cases high <;> cases low <;> rfl

/-- A correction is taken away modulo 256 after a subtraction and added modulo 256 after an addition. -/
theorem daa_result (a : Byte) (n : Bool) {d : Nat} (hd : d ≤ 256) :
    (if n then a - BitVec.ofNat 8 d else a + BitVec.ofNat 8 d) =
      BitVec.ofNat 8 (if n then a.toNat + 256 - d else a.toNat + d) := by
  cases n with
  | false => simp [BitVec.ofNat_add]
  | true =>
    apply BitVec.eq_of_toNat_eq
    simp only [if_true, BitVec.toNat_sub, BitVec.toNat_ofNat]
    omega

theorem daa_eq (a : Byte) (old : FlagBits) :
    daa a old =
      let high := old.c || decide (0x99 < a.toNat)
      let low := old.h || decide (9 < a.toNat % 16)
      let diff := 96 * high.toNat + 6 * low.toNat
      let res := BitVec.ofNat 8 (if old.n then a.toNat + 256 - diff else a.toNat + diff)
      (res,
        { s := res.msb, z := res == 0, y := res.getLsbD 5,
          h := if old.n then old.h && decide (a.toNat % 16 < 6) else decide (9 < a.toNat % 16),
          x := res.getLsbD 3, pv := evenOnes res, n := old.n, c := high }) := by
  have hd (high low : Bool) : 96 * high.toNat + 6 * low.toNat ≤ 256 := by
    have := high.toNat_le
    have := low.toNat_le
    omega
  simp only [← daa_result _ _ (hd _ _), ← daa_diff, ← parity_eq, BitVec.msb_eq_getLsbD_last]
  rfl

theorem exec_daa (s : State) : exec .daa s = finish 4 (s.setResult (daa s.regs.a s.flags)) := rfl

/-- Settles O24: DAA ends in A and the flags that its equation gives. -/
theorem decimalAdjust : Obligations.DecimalAdjust := by
  intro s a high low diff res
  exact completes_setResult (exec_daa s) (daa_eq ..)

/-! ## Packed decimal (R265) -/

/-- Both digits of the byte are decimal. -/
def Packed (b : Byte) : Prop := b.toNat / 16 ≤ 9 ∧ b.toNat % 16 ≤ 9

/-- The number that the two digits name. -/
def decimal (b : Byte) : Nat := 10 * (b.toNat / 16) + b.toNat % 16

/-- A byte written with two decimal digits. -/
theorem packed_decimal_of_digits {x high low : Nat} (hx : x % 256 = 16 * high + low) (hhigh : high ≤ 9)
    (hlow : low ≤ 9) : Packed (BitVec.ofNat 8 x) ∧ decimal (BitVec.ofNat 8 x) = 10 * high + low := by
  have hb : (BitVec.ofNat 8 x).toNat = 16 * high + low := (BitVec.toNat_ofNat x 8).trans hx
  unfold Packed decimal
  omega

/-- A truth value in a sum counts 1 where it holds. -/
theorem toNat_decide (p : Prop) [Decidable p] : p ∧ (decide p).toNat = 1 ∨ ¬p ∧ (decide p).toNat = 0 := by
  by_cases h : p <;> simp [h]

/-- A sum of packed numbers with DAA's correction: the low digit carries where the digits' sum is over 9, and the hundred is
lost where the whole sum is over 99. -/
theorem sum_adjusted {a v high low : Nat} (haHigh : a / 16 ≤ 9) (haLow : a % 16 ≤ 9) (hvHigh : v / 16 ≤ 9)
    (hvLow : v % 16 ≤ 9)
    (hhigh : 99 < 10 * (a / 16) + a % 16 + (10 * (v / 16) + v % 16) ∧ high = 1 ∨
      ¬99 < 10 * (a / 16) + a % 16 + (10 * (v / 16) + v % 16) ∧ high = 0)
    (hlow : 9 < a % 16 + v % 16 ∧ low = 1 ∨ ¬9 < a % 16 + v % 16 ∧ low = 0) :
    ∃ h ≤ 9, ∃ l ≤ 9, (a + v + (96 * high + 6 * low)) % 256 = 16 * h + l ∧
      10 * h + l + 100 * high = 10 * (a / 16) + a % 16 + (10 * (v / 16) + v % 16) := by
  refine ⟨a / 16 + v / 16 + low - 10 * high, ?_, a % 16 + v % 16 - 10 * low, ?_, ?_, ?_⟩
  all_goals omega

/-- A difference of packed numbers with DAA's correction: each digit that borrows borrows ten. -/
theorem difference_adjusted {a v high low : Nat} (haHigh : a / 16 ≤ 9) (haLow : a % 16 ≤ 9) (hvHigh : v / 16 ≤ 9)
    (hvLow : v % 16 ≤ 9) (hhigh : a < v ∧ high = 1 ∨ ¬a < v ∧ high = 0)
    (hlow : a % 16 < v % 16 ∧ low = 1 ∨ ¬a % 16 < v % 16 ∧ low = 0) :
    ∃ h ≤ 9, ∃ l ≤ 9, ((256 + a - v) % 256 + 256 - (96 * high + 6 * low)) % 256 = 16 * h + l ∧
      10 * h + l + (10 * (v / 16) + v % 16) = 10 * (a / 16) + a % 16 + 100 * high := by
  refine ⟨a / 16 + 10 * high - v / 16 - low, ?_, a % 16 + 10 * low - v % 16, ?_, ?_, ?_⟩
  all_goals omega

/-- After an addition of packed bytes DAA's two conditions say that the low digits' sum is over 9 and that the whole sum is
over 99. -/
theorem daa_add8 {a v : Byte} (ha : Packed a) (hv : Packed v) :
    let r := daa (add8 a v false).1 (add8 a v false).2
    Packed r.1 ∧ decimal r.1 + 100 * r.2.c.toNat = decimal a + decimal v := by
  obtain ⟨haHigh, haLow⟩ := ha
  obtain ⟨hvHigh, hvLow⟩ := hv
  have hda : decimal a = 10 * (a.toNat / 16) + a.toNat % 16 := rfl
  have hdv : decimal v = 10 * (v.toNat / 16) + v.toNat % 16 := rfl
  have hhigh : (decide (255 < a.toNat + v.toNat) || decide (0x99 < (a.toNat + v.toNat) % 256)) =
      decide (99 < decimal a + decimal v) := by
    rw [← Bool.decide_or, decide_eq_decide]
    omega
  have hlow : (decide (15 < a.toNat % 16 + v.toNat % 16) || decide (9 < (a.toNat + v.toNat) % 256 % 16)) =
      decide (9 < a.toNat % 16 + v.toNat % 16) := by
    rw [← Bool.decide_or, decide_eq_decide]
    omega
  simp only [add8_eq, daa_eq, Bool.toNat_false, Nat.add_zero, BitVec.toNat_ofNat, Nat.reducePow, hhigh, hlow,
    Bool.false_eq_true, if_false]
  have hhundred := toNat_decide (99 < decimal a + decimal v)
  have hcarry := toNat_decide (9 < a.toNat % 16 + v.toNat % 16)
  obtain ⟨h, hh, l, hl, hdigits, hsum⟩ := sum_adjusted haHigh haLow hvHigh hvLow hhundred hcarry
  rw [← Nat.mod_add_mod] at hdigits
  obtain ⟨hpacked, hdecimal⟩ := packed_decimal_of_digits hdigits hh hl
  exact ⟨hpacked, by rw [hdecimal]; exact hsum⟩

/-- After a subtraction of packed bytes DAA's two conditions say which digits have borrowed. -/
theorem daa_sub8 {a v : Byte} (ha : Packed a) (hv : Packed v) :
    let r := daa (sub8 a v false).1 (sub8 a v false).2
    Packed r.1 ∧ decimal r.1 + decimal v = decimal a + 100 * r.2.c.toNat := by
  obtain ⟨haHigh, haLow⟩ := ha
  obtain ⟨hvHigh, hvLow⟩ := hv
  have hhigh : (decide (a.toNat < v.toNat) || decide (0x99 < (256 + a.toNat - v.toNat) % 256)) =
      decide (a.toNat < v.toNat) := by
    rw [← Bool.decide_or, decide_eq_decide]
    omega
  have hlow : (decide (a.toNat % 16 < v.toNat % 16) || decide (9 < (256 + a.toNat - v.toNat) % 256 % 16)) =
      decide (a.toNat % 16 < v.toNat % 16) := by
    rw [← Bool.decide_or, decide_eq_decide]
    omega
  simp only [sub8_eq, daa_eq, Bool.toNat_false, Nat.add_zero, Nat.sub_zero, BitVec.toNat_ofNat, Nat.reducePow,
    hhigh, hlow, if_true]
  have hborrow := toNat_decide (a.toNat < v.toNat)
  have hborrowLow := toNat_decide (a.toNat % 16 < v.toNat % 16)
  obtain ⟨h, hh, l, hl, hdigits, hdifference⟩ := difference_adjusted haHigh haLow hvHigh hvLow hborrow hborrowLow
  obtain ⟨hpacked, hdecimal⟩ := packed_decimal_of_digits hdigits hh hl
  exact ⟨hpacked, by rw [hdecimal]; exact hdifference⟩

/-- DAA after an operation that has set A and the flags adjusts what the operation has computed. -/
theorem exec_daa_setResult (s : State) (r : Byte × FlagBits) (n : Nat) :
    exec .daa ((s.setResult r).spend n) = .next ((((s.setResult r).spend n).setResult (daa r.1 r.2)).spend 4) := by
  rw [exec_daa, flags_spend, flags_setResult]
  rfl

/-- Settles O25: DAA adjusts the sum or the difference that ADD or SUB has left in A and the flags. -/
theorem decimalArithmetic : Obligations.DecimalArithmetic := by
  intro s v dec haHigh haLow hvHigh hvLow
  have ha : Packed s.regs.a := ⟨haHigh, haLow⟩
  have hv : Packed v := ⟨hvHigh, hvLow⟩
  obtain ⟨⟨hsumHigh, hsumLow⟩, hsum⟩ := daa_add8 ha hv
  obtain ⟨⟨hdifHigh, hdifLow⟩, hdif⟩ := daa_sub8 ha hv
  refine ⟨⟨_, _, rfl, exec_daa_setResult .., hsumHigh, hsumLow, ?sum⟩,
    ⟨_, _, rfl, exec_daa_setResult .., hdifHigh, hdifLow, ?difference⟩⟩
  case sum =>
    rw [flags_spend, flags_setResult]
    exact hsum
  case difference =>
    rw [flags_spend, flags_setResult]
    exact hdif

/-! ## CPL, NEG, CCF and SCF (R266 to R269) -/

/-- CPL's new A and flags (R266). -/
def cplResult (a : Byte) (old : FlagBits) : Byte × FlagBits :=
  (~~~a, { old with h := true, n := true, y := !a.getLsbD 5, x := !a.getLsbD 3 })

theorem exec_cpl (s : State) : exec .cpl s = finish 4 (s.setResult (cplResult s.regs.a s.flags)) := by
  have hnot {k : Nat} (hk : k < 8) : (~~~s.regs.a).getLsbD k = !s.regs.a.getLsbD k := by
    rw [BitVec.getLsbD_not, decide_eq_true hk, Bool.true_and]
  have hexec : exec .cpl s = finish 4 ((s.setA (~~~s.regs.a)).setFlags
      { s.flags with h := true, n := true, y := (~~~s.regs.a).getLsbD 5, x := (~~~s.regs.a).getLsbD 3 }) := rfl
  rw [hexec, hnot (by decide), hnot (by decide)]
  rfl

/-- NEG subtracts A from zero (R267). -/
theorem sub8_zero_eq (a : Byte) :
    sub8 0 a false =
      let neg := BitVec.ofNat 8 (256 - a.toNat)
      (neg,
        { s := neg.msb, z := a == 0, y := neg.getLsbD 5, h := decide (a.toNat % 16 ≠ 0), x := neg.getLsbD 3,
          pv := a == 0x80, n := true, c := a != 0 }) := by
  have hzero : (BitVec.ofNat 8 (256 - a.toNat) == 0) = (a == 0) := by
    revert a; decide
  have hhalf : decide (0 < a.toNat % 16) = decide (a.toNat % 16 ≠ 0) := by
    rw [decide_eq_decide]; exact Nat.pos_iff_ne_zero
  have hoverflow : leavesByte (0 - a.toInt) = (a == 0x80) := by
    revert a; decide
  have hborrow : decide (0 < a.toNat) = (a != 0) := by
    revert a; decide
  have hzeroNat : (0 : Byte).toNat = 0 := rfl
  have hzeroInt : (0 : Byte).toInt = 0 := rfl
  simp only [sub8_eq, hzeroNat, hzeroInt, Nat.zero_mod, Bool.toNat_false, Nat.add_zero, Nat.sub_zero, Nat.cast_zero,
    Int.sub_zero, hzero, hhalf, hoverflow, hborrow]

/-- Settles O26: CPL and NEG end in A and the flags, CCF and SCF in the drawn flags. -/
theorem accumulatorAndCarry : Obligations.AccumulatorAndCarry := by
  intro s a neg
  refine ⟨?cpl, ?neg, ?ccf, ?scf⟩
  case cpl =>
    have h := completes_setResult (exec_cpl s) rfl
    exact h.mono fun t ⟨ha, hf⟩ => ⟨by rw [ha]; exact BitVec.toNat_not, hf⟩
  case neg => exact completes_setResult rfl (sub8_zero_eq _)
  case ccf => exact completes_drawCarry rfl
  case scf => exact completes_drawCarry rfl

end Sys2Proof

/-! PROOF. The 16-bit arithmetic (R300 to R307). ADD, ADC and SBC end in HL or an index register and the flags, INC and DEC in
one pair or index register: what each of these operations completes with is said once, and the adders as arithmetic are
`adc16_eq` and `sbc16_eq`. -/

namespace Sys2Proof

open Sys2Proof.Machine

/-! ## What each shared operation completes with -/

/-- More parts may be named, and in another order. -/
theorem Completes.widen {i : Instr} {s : State} {n : Nat} {P Q : List Part} {post : State → Prop}
    (h : Completes i s n P post) (hsub : P ⊆ Q) : Completes i s n Q post :=
  have ⟨t, he, hc, hf, hp⟩ := h
  ⟨t, he, hc, fun p hq => hf p fun hm => hq (List.cons_subset_cons _ hsub hm), hp⟩

section

variable {i : Instr} {s : State} {n : Nat}

/-- An operation that ends in HL and the flags, with what it computes written in another way. -/
theorem completes_setHlResult {r r' : Word × FlagBits} (he : exec i s = finish n (s.setHlResult r)) (hr : r = r') :
    Completes i s n [.f, .reg .h, .reg .l] fun t => t.hl = r'.1 ∧ t.flags = r'.2 := by
  subst hr
  have hhl : (s.setHlResult r).hl = r.1 := pair_setPair s .hl r.1
  have hflags : (s.setHlResult r).flags = r.2 := State.flags_setFlags (s.setHl r.1) r.2
  exact completes_confined he (.of_setHlResult s r (Confined.all_named _ _)) rfl ⟨hhl, hflags⟩

theorem completes_setIndex {x : Index} {w : Word} (he : exec i s = finish n (s.setIndex x w)) :
    Completes i s n [x.part] fun t => t.index x = w := by
  have hc : (s.setIndex x w).cycles = s.cycles := by cases x <;> rfl
  have hindex : ((s.setIndex x w).spend n).index x = w := by cases x <;> rfl
  exact completes_confined he (.of_setIndex s x w) hc hindex

/-- ADD IX,pp and ADD IY,pp end in the index register and the flags (R303). -/
theorem completes_addIndex {x : Index} {b : Word} (he : exec i s = finish n (s.addIndex x b)) :
    Completes i s n [.f, x.part] fun t =>
      t.index x = (add16 (s.index x) b s.flags).1 ∧ t.flags = (add16 (s.index x) b s.flags).2 := by
  have hc : (s.addIndex x b).cycles = s.cycles := by cases x <;> rfl
  have hindex : ((s.addIndex x b).spend n).index x = (add16 (s.index x) b s.flags).1 := by cases x <;> rfl
  have hflags : (s.addIndex x b).flags = (add16 (s.index x) b s.flags).2 := State.flags_setFlags _ _
  exact (completes_confined he (.of_addIndex s x b) hc ⟨hindex, hflags⟩).widen (by simp)

end

/-! ## The results as arithmetic -/

/-- What ADD says of a sum `res` and of the flags after it (R300, R303). -/
def WordSum (old : FlagBits) (a b res : Word) (new : FlagBits) : Prop :=
  res.toNat = (a.toNat + b.toNat) % 65536 ∧ new =
    { old with
      h := decide (0xFFF < a.toNat % 4096 + b.toNat % 4096), n := false, c := decide (0xFFFF < a.toNat + b.toNat),
      y := res.getLsbD 13, x := res.getLsbD 11 }

theorem wordSum_add16 {old new : FlagBits} {a b res : Word} (hres : res = (add16 a b old).1)
    (hnew : new = (add16 a b old).2) : WordSum old a b res new := by
  subst hres hnew
  exact ⟨BitVec.toNat_ofNat _ 16, rfl⟩

theorem toNat_of_eq_add_one {v w : Word} (h : v = w + 1) : v.toNat = (w.toNat + 1) % 65536 := by
  rw [h]
  exact BitVec.toNat_add w 1

/-- DEC adds the word 0xFFFF. -/
theorem toNat_of_eq_sub_one {v w : Word} (h : v = w - 1) : v.toNat = (w.toNat + 65535) % 65536 := by
  rw [h, Nat.add_comm]
  exact BitVec.toNat_sub w 1

/-! ## Every form -/

/-- Settles O27: ADD, ADC and SBC are the three word adders, INC and DEC the word plus and minus one. -/
theorem wordArithmetic : Obligations.WordArithmetic := by
  intro s post
  refine ⟨fun p => ?addHl, fun p => ?addIx, fun p => ?addIy, fun p => ?incPair, fun p => ?decPair, ?incIx, ?incIy, ?decIx,
    ?decIy, fun p => ⟨?adcHl, ?sbcHl⟩⟩
  case addHl => exact (completes_setHlResult rfl rfl).mono fun _ ⟨hhl, hf⟩ => wordSum_add16 hhl hf
  case addIx => exact (completes_addIndex (x := .ix) rfl).mono fun _ ⟨hix, hf⟩ => wordSum_add16 hix hf
  case addIy => exact (completes_addIndex (x := .iy) rfl).mono fun _ ⟨hiy, hf⟩ => wordSum_add16 hiy hf
  case incPair => exact (completes_setPair rfl).mono fun _ => toNat_of_eq_add_one
  case decPair => exact (completes_setPair rfl).mono fun _ => toNat_of_eq_sub_one
  case incIx => exact (completes_setIndex (x := .ix) rfl).mono fun _ => toNat_of_eq_add_one
  case incIy => exact (completes_setIndex (x := .iy) rfl).mono fun _ => toNat_of_eq_add_one
  case decIx => exact (completes_setIndex (x := .ix) rfl).mono fun _ => toNat_of_eq_sub_one
  case decIy => exact (completes_setIndex (x := .iy) rfl).mono fun _ => toNat_of_eq_sub_one
  case adcHl => exact completes_setHlResult rfl (adc16_eq ..)
  case sbcHl => exact completes_setHlResult rfl (sbc16_eq ..)

end Sys2Proof

/-! PROOF. The rotates and shifts (R320 to R333). The CB family is one operation on the byte at a place, the four rotates of A
end in A and some flags, RLD and RRD in one byte of memory, A and the flags: the operations themselves are
`ShiftOp.machine_eq`, and the decimal digits are the halves of a byte as numbers. -/

namespace Sys2Proof

open Sys2Proof.Machine

/-! ## The CB family in every place (R324 to R331) -/

/-- The flags of the CB family, with S as the sign bit and P/V as a count (R324). -/
theorem shiftFlags_eq (r : Shifted) :
    shiftFlags r =
      { s := r.1.msb, z := r.1 == 0, y := r.1.getLsbD 5, h := false, x := r.1.getLsbD 3, pv := evenOnes r.1, n := false,
        c := r.2 } := by
  rw [shiftFlags, logicFlags_eq]

/-- Every form of a rotate or shift is the machine's operation on the byte at the form's place. -/
theorem exec_shiftInstr (op : ShiftOp) (p : Place) (s : State) :
    exec (op.instr p) s = finish (p.cost 8 15 23)
      ((p.put s (op.machine (p.value s) s.flags.c).1).setFlags (shiftFlags (op.machine (p.value s) s.flags.c))) := by
  cases p with
  | reg | hl => cases op <;> rfl
  | idx x => cases x <;> cases op <;> rfl

/-- Settles O29: the machine's operation is the one on numbers, and its carry-out is the bit that leaves the byte. -/
theorem shiftByte : Obligations.ShiftByte := by
  intro s op p res
  have h := completes_put (exec_shiftInstr op p s)
  rw [shiftFlags_eq, ShiftOp.machine_eq] at h
  exact h

/-! ## The rotates of A (R320 to R323) -/

/-- RLCA, RLA, RRCA and RRA end in A and the flags, of which S, Z and P/V are the old ones. -/
theorem completes_rotateA {i : Instr} {s : State} {n : Nat} (op : ShiftOp)
    (he : exec i s = finish n (s.rotateA (op.machine s.regs.a s.flags.c))) :
    Completes i s n [.reg .a, .f] fun t => t.reg8 .a = op.result s.regs.a s.flags.c ∧ t.flags =
      { s.flags with
        c := op.carry s.regs.a, h := false, n := false, y := (t.reg8 .a).getLsbD 5, x := (t.reg8 .a).getLsbD 3 } := by
  rw [ShiftOp.machine_eq] at he
  have h := completes_setResult (r := (_, accShiftFlags s.flags (op.result s.regs.a s.flags.c, op.carry s.regs.a))) he rfl
  exact h.mono fun t ⟨ha, hf⟩ => ⟨ha, by rw [ha, hf]; rfl⟩

/-! ## The digits of a byte (R332, R333) -/

theorem toNat_lowNibble (v : Byte) : (lowNibble v).toNat = v.toNat % 16 :=
  BitVec.extractLsb'_toNat 0 4 v

theorem toNat_highNibble (v : Byte) : (highNibble v).toNat = v.toNat / 16 := by
  have hv : v.toNat < 256 := v.isLt
  have h : (highNibble v).toNat = (v.toNat >>> 4) % 2 ^ 4 := BitVec.extractLsb'_toNat 4 4 v
  rw [h, Nat.shiftRight_eq_div_pow]
  omega

theorem toNat_joinNibbles (high low : BitVec 4) : (joinNibbles high low).toNat = 16 * high.toNat + low.toNat := by
  rw [joinNibbles, BitVec.toNat_append, ← Nat.shiftLeft_add_eq_or_of_lt low.isLt, Nat.shiftLeft_eq, Nat.mul_comm]

theorem joinNibbles_eq (high low : BitVec 4) : joinNibbles high low = BitVec.ofNat 8 (16 * high.toNat + low.toNat) := by
  rw [← toNat_joinNibbles, BitVec.ofNat_toNat, BitVec.setWidth_eq]

/-! ## RLD and RRD (R332, R333) -/

/-- The flags of a byte that leave C as it was, with S as the sign bit and P/V as a count. -/
theorem byteFlags_eq (old : FlagBits) (v : Byte) :
    byteFlags old v =
      { s := v.msb, z := v == 0, y := v.getLsbD 5, h := false, x := v.getLsbD 3, pv := evenOnes v, n := false,
        c := old.c } := by
  rw [byteFlags, logicFlags_eq]

/-- RLD and RRD join two digits for the byte at HL and two for A. -/
theorem completes_rotateDigit {i : Instr} {s : State} {n : Nat} {storedHigh storedLow high low : BitVec 4}
    (he : exec i s = finish n (s.rotateDigit (joinNibbles storedHigh storedLow) (joinNibbles high low))) :
    Completes i s n [.reg .a, .f, .memory, .slots] fun t =>
      Stored [(s.hl, BitVec.ofNat 8 (16 * storedHigh.toNat + storedLow.toNat))] s t ∧
      (t.reg8 .a).toNat = 16 * high.toNat + low.toNat ∧ t.flags =
        { s := (t.reg8 .a).msb, z := t.reg8 .a == 0, y := (t.reg8 .a).getLsbD 5, h := false, x := (t.reg8 .a).getLsbD 3,
          pv := evenOnes (t.reg8 .a), n := false, c := s.flags.c } := by
  refine completes_confined he (.of_rotateDigit s _ _) rfl ⟨?stored, toNat_joinNibbles high low, ?flags⟩
  case stored =>
    rw [← joinNibbles_eq]
    exact (stored_store s s.hl _).congr (readByte_congr rfl rfl rfl rfl) rfl
  case flags => exact (State.flags_setFlags _ _).trans (byteFlags_eq s.flags _)

/-- Settles O28: the rotates of A are those of the CB family with other flags, RLD and RRD move the digits of A and of the byte
at HL. -/
theorem rotateAccumulator : Obligations.RotateAccumulator := by
  intro s a m rotated digits
  refine ⟨completes_rotateA .rlc rfl, completes_rotateA .rl rfl, completes_rotateA .rrc rfl, completes_rotateA .rr rfl,
    ?rld, ?rrd⟩
  case rld =>
    have h := completes_rotateDigit (i := .rld) (s := s) rfl
    simp only [toNat_lowNibble, toNat_highNibble] at h
    exact h
  case rrd =>
    have h := completes_rotateDigit (i := .rrd) (s := s) rfl
    simp only [toNat_lowNibble, toNat_highNibble] at h
    exact h

end Sys2Proof

/-! PROOF. BIT, SET and RES (R350 to R358). A BIT ends in flags alone, which differ by its form in Y and X only; SET and RES put
at their place the byte there joined with one mask or cut by it, and the mask's bits are said once. -/

namespace Sys2Proof

open Sys2Proof.Machine

/-! ## The tested bit (R350 to R352) -/

/-- The flags of BIT, all eight in order: S can only come from bit 7. -/
theorem bitFlags_eq (old : FlagBits) (b : Nat) (v : Byte) (y x : Bool) :
    bitFlags old b v y x =
      ⟨decide (b = 7) && v.getLsbD 7, !v.getLsbD b, y, true, x, !v.getLsbD b, false, old.c⟩ := by
  have hs : (b == 7 && v.getLsbD b) = (decide (b = 7) && v.getLsbD 7) := by
    by_cases hb : b = 7
    · subst hb; rfl
    · simp [hb]
  rw [bitFlags, hs]

/-- BIT of any byte with Y and X as the form gives them: the flags and nothing else. -/
theorem completes_bitFlags {i : Instr} {s : State} {n b : Nat} {v : Byte} {y x : Bool}
    (he : exec i s = finish n (s.setFlags (bitFlags s.flags b v y x))) :
    Completes i s n [.f] fun t =>
      t.flags = ⟨decide (b = 7) && v.getLsbD 7, !v.getLsbD b, y, true, x, !v.getLsbD b, false, s.flags.c⟩ := by
  rw [bitFlags_eq] at he
  exact completes_setFlags he

/-- Flags of which some are drawn, from one draw. -/
theorem completes_setFlags_drew {i : Instr} {s : State} {n : Nat} {b : FlagBits}
    (he : exec i s = finish n (s.setFlags b).drew) : Completes i s n [.f, .draws] fun t => t.flags = b :=
  completes_confined he (.of_setFlags_drew s b (Confined.all_named _ _)) rfl (State.flags_setFlags s b)

/-- Either form of BIT on an indexed byte takes Y and X from the address (R352). -/
theorem exec_bitInstr_idx (b : Nat) (x : Index) (d : Byte) (s : State) :
    exec (bitInstr b (.idx x d)) s = finish 20 (s.bitAt b (s.ea x d)) := by
  cases x <;> rfl

/-! ## The written bit (R353 to R358) -/

/-- A byte written at a place, and no flag: nothing else is touched. -/
theorem completes_putByte {i : Instr} {s : State} {n : Nat} {p : Place} {v : Byte} (he : exec i s = finish n (p.put s v)) :
    Completes i s n p.parts (p.Holds v s) := by
  have hstored (a : Word) : Stored [(a, v)] s ((s.store a v).spend n) := (stored_store s a v).congr (readByte_spend _ n) rfl
  cases p with
  | reg r => exact completes_confined he (.of_setReg8 s r v) rfl (RegFile.get_set_same s.regs r v)
  | hl => exact completes_confined he (.of_store s s.hl v) rfl (hstored s.hl)
  | idx x d => exact completes_confined he (.of_store s (s.ea x d) v) rfl (hstored (s.ea x d))

theorem exec_setInstr (b : Nat) (p : Place) (s : State) :
    exec (setInstr b p) s = finish (p.cost 8 15 23) (p.put s (p.value s ||| bitMask b)) := by
  cases p with
  | reg | hl => rfl
  | idx x => cases x <;> rfl

theorem exec_resInstr (b : Nat) (p : Place) (s : State) :
    exec (resInstr b p) s = finish (p.cost 8 15 23) (p.put s (p.value s &&& ~~~bitMask b)) := by
  cases p with
  | reg | hl => rfl
  | idx x => cases x <;> rfl

/-- The mask has the one bit. -/
theorem getLsbD_bitMask {b k : Nat} (hk : k < 8) : (bitMask b).getLsbD k = decide (k = b) := by
  have hbit : (bitMask b).getLsbD k = (decide (b < 8) && decide (b = k)) := BitVec.getLsbD_twoPow b k
  rw [hbit, ← Bool.decide_and]
  exact decide_eq_decide.2 (by omega)

/-- Joining with the mask sets the one bit and keeps the others. -/
theorem getLsbD_or_bitMask {b k : Nat} (v : Byte) (hk : k < 8) :
    (v ||| bitMask b).getLsbD k = (decide (k = b) || v.getLsbD k) := by
  rw [BitVec.getLsbD_or, getLsbD_bitMask hk, Bool.or_comm]

/-- Cutting the mask out resets the one bit and keeps the others. -/
theorem getLsbD_and_not_bitMask {b k : Nat} (v : Byte) (hk : k < 8) :
    (v &&& ~~~bitMask b).getLsbD k = (decide (k ≠ b) && v.getLsbD k) := by
  rw [BitVec.getLsbD_and, BitVec.getLsbD_not, getLsbD_bitMask hk, decide_eq_true hk, Bool.true_and, decide_not,
    Bool.and_comm]

/-- Settles O30: the forms of BIT differ in where Y and X come from, SET and RES are one mask at every place. -/
theorem bitInstructions : Obligations.BitInstructions := by
  intro s b _ flags
  refine ⟨fun r => ?bitReg, ?bitMemHl, fun x d => ?bitIdx, fun p => ⟨?set, ?res⟩⟩
  case bitReg => exact completes_bitFlags rfl
  case bitMemHl => exact (completes_setFlags_drew rfl).mono fun _ hf => ⟨_, _, hf.trans (bitFlags_eq ..)⟩
  case bitIdx => exact completes_bitFlags (exec_bitInstr_idx b x d s)
  case set => exact ⟨_, fun _ => getLsbD_or_bitMask (p.value s), completes_putByte (exec_setInstr b p s)⟩
  case res => exact ⟨_, fun _ => getLsbD_and_not_bitMask (p.value s), completes_putByte (exec_resInstr b p s)⟩

end Sys2Proof

/-! PROOF. Block transfer and block search (R370 to R379). The four forms of a family share one iteration, which ends in the
pairs it steps and in flags: what the iteration leaves, and what stays of it where the instruction goes back to its own first
byte, is said once, and the forms differ in the direction and in whether they repeat. -/

namespace Sys2Proof

open Sys2Proof.Machine

/-! ## What the two families share (R378, R379) -/

/-- HL and DE go down in LDD, LDDR, CPD and CPDR and up in the other four (R370 to R377). -/
def blockStep (down : Bool) : Word := if down then 0xFFFF else 0x0001

/-- A difference is zero where the two are equal: the count is used up, or the byte matches. -/
theorem sub_beq_zero {w : Nat} (a b : BitVec w) : (a - b == 0) = (a == b) := by
  rw [Bool.eq_iff_iff, beq_iff_eq, beq_iff_eq]
  exact sub_eq_zero

theorem sub_bne_zero {w : Nat} (a b : BitVec w) : (a - b != 0) = decide (a ≠ b) := by
  rw [bne, sub_beq_zero]
  exact (decide_not ..).symm

/-- Going back draws Y and X and keeps every other flag (R379). -/
theorem flags_rewind (u : State) : u.rewind.flags = u.flags.drawYX u.freeByte :=
  State.flags_setFlags (u.jump (u.pc - 2)) _

/-- A repeating iteration costs 21 T-states, moves PC and draws, besides what the iteration is confined to. -/
theorem completes_repeat {i : Instr} {s u : State} {P : List Part} {F : List FlagName} {A : List Word}
    {post : State → Prop} (he : exec i s = finishRepeat true u) (hu : Confined P F A s u) (hf : .f ∈ P) (hy : .y ∈ F)
    (hx : .x ∈ F) (hc : u.cycles = s.cycles) (hp : post (u.rewind.spend 21)) :
    Completes i s 21 (.pc :: .draws :: P) post :=
  completes_confined he (hu.branch_rewind true hf hy hx) hc hp

/-! ## LDI, LDD, LDIR and LDDR (R370 to R373) -/

theorem exec_blockLoad (down : Bool) (s : State) :
    exec (if down then .ldd else .ldi) s = finish 16 (s.blockLoad (blockStep down)) := by
  cases down <;> rfl

theorem exec_blockLoadRepeat (down : Bool) (s : State) :
    exec (if down then .lddr else .ldir) s =
      finishRepeat (decide (s.bc ≠ 1)) (s.blockLoad (blockStep down)) := by
  rw [← sub_bne_zero]
  cases down <;> rfl

/-- From `s` to `t` one byte has moved from HL to DE, and the three pairs are stepped. -/
def BlockMoved (step : Word) (s t : State) : Prop :=
  Stored [(s.de, s.readByte s.hl)] s t ∧ t.hl = s.hl + step ∧ t.de = s.de + step ∧ t.bc = s.bc - 1

/-- The move stands at the end of the iteration, whether it goes back or not. -/
theorem blockMoved_blockLoad (again : Bool) (step : Word) (s : State) (n : Nat) :
    BlockMoved step s ((if again then (s.blockLoad step).rewind else s.blockLoad step).spend n) := by
  have hstored := stored_store s s.de (s.readByte s.hl)
  cases again
  all_goals
    exact ⟨hstored.congr (readByte_congr rfl rfl rfl rfl) rfl, join_hi8_lo8 _, join_hi8_lo8 _, join_hi8_lo8 _⟩

/-- The flags of a transfer, but for where Y and X come from (R370, R379). -/
def transferFlags (s : State) (y x : Bool) : FlagBits :=
  { s.flags with h := false, n := false, pv := decide (s.bc ≠ 1), y := y, x := x }

/-- P/V says that the count is not used up; Y and X come from the sum of A and the byte moved (R370). -/
theorem flags_blockLoad (step : Word) (s : State) :
    (s.blockLoad step).flags =
      let sum := BitVec.ofNat 8 ((s.readByte s.hl).toNat + s.regs.a.toNat)
      transferFlags s (sum.getLsbD 1) (sum.getLsbD 3) := by
  have hsum : s.readByte s.hl + s.regs.a = BitVec.ofNat 8 ((s.readByte s.hl).toNat + s.regs.a.toNat) := by bv_omega
  rw [← hsum, transferFlags, ← sub_bne_zero]
  exact State.flags_setFlags _ _

/-- An iteration of a transfer that does not go back. -/
theorem completes_blockLoad {i : Instr} {s : State} {step : Word} (he : exec i s = finish 16 (s.blockLoad step)) :
    Completes i s 16 [.f, .memory, .slots, .reg .b, .reg .c, .reg .d, .reg .e, .reg .h, .reg .l] fun t =>
      BlockMoved step s t ∧ t.flags =
        let sum := BitVec.ofNat 8 ((s.readByte s.hl).toNat + s.regs.a.toNat)
        transferFlags s (sum.getLsbD 1) (sum.getLsbD 3) :=
  completes_confined he (.of_blockLoad s step) rfl ⟨blockMoved_blockLoad false step s 16, flags_blockLoad step s⟩

/-- An iteration of a transfer that goes back to its own first byte. -/
theorem completes_blockLoad_repeat {i : Instr} {s : State} {step : Word}
    (he : exec i s = finishRepeat true (s.blockLoad step)) :
    Completes i s 21 [.pc, .draws, .f, .memory, .slots, .reg .b, .reg .c, .reg .d, .reg .e, .reg .h, .reg .l] fun t =>
      BlockMoved step s t ∧ t.pc = s.pc - 2 ∧ ∃ y x, t.flags = transferFlags s y x := by
  have hflags : ∃ y x, (s.blockLoad step).rewind.flags = transferFlags s y x := by
    rw [flags_rewind, flags_blockLoad]
    exact ⟨_, _, rfl⟩
  exact completes_repeat he (.of_blockLoad s step) (.head _) (.head _) (by decide) rfl
    ⟨blockMoved_blockLoad true step s 21, rfl, hflags⟩

/-- Settles O31: every form is one iteration, and the repeating forms go back unless BC was 1. -/
theorem blockTransfer : Obligations.BlockTransfer := by
  intro s down step m sum touched moved flags
  have hrepeat := exec_blockLoadRepeat down s
  refine ⟨completes_blockLoad (exec_blockLoad down s), fun hlast => ?last, fun hmore => ?again⟩
  case last =>
    rw [decide_eq_false (not_not_intro hlast)] at hrepeat
    exact completes_blockLoad hrepeat
  case again =>
    rw [decide_eq_true hmore] at hrepeat
    exact completes_blockLoad_repeat hrepeat

/-! ## CPI, CPD, CPIR and CPDR (R374 to R377) -/

theorem exec_blockCompare (down : Bool) (s : State) :
    exec (if down then .cpd else .cpi) s = finish 16 (s.blockCompare (blockStep down)) := by
  cases down <;> rfl

theorem exec_blockCompareRepeat (down : Bool) (s : State) :
    exec (if down then .cpdr else .cpir) s =
      finishRepeat (decide (s.bc ≠ 1 ∧ s.regs.a ≠ s.readByte s.hl)) (s.blockCompare (blockStep down)) := by
  rw [Bool.decide_and, ← sub_bne_zero, ← sub_bne_zero]
  cases down <;> rfl

/-- From `s` to `t` the address and the count of a search are stepped. -/
def BlockStepped (step : Word) (s t : State) : Prop := t.hl = s.hl + step ∧ t.bc = s.bc - 1

/-- The steps stand at the end of the iteration, whether it goes back or not. -/
theorem blockStepped_blockCompare (again : Bool) (step : Word) (s : State) (n : Nat) :
    BlockStepped step s ((if again then (s.blockCompare step).rewind else s.blockCompare step).spend n) := by
  cases again
  all_goals exact ⟨join_hi8_lo8 _, join_hi8_lo8 _⟩

/-- The flags of a search, but for where Y and X come from (R374, R379). -/
def searchFlags (s : State) (y x : Bool) : FlagBits :=
  let m := s.readByte s.hl
  ⟨(BitVec.ofNat 8 (256 + s.regs.a.toNat - m.toNat)).msb, s.regs.a == m, y,
    decide (s.regs.a.toNat % 16 < m.toNat % 16), x, decide (s.bc ≠ 1), true, s.flags.c⟩

/-- The difference less the borrow from bit 4, from which Y and X come (R374). -/
def searchDifference (s : State) : Byte :=
  let m := s.readByte s.hl
  BitVec.ofNat 8 (512 + s.regs.a.toNat - m.toNat - (decide (s.regs.a.toNat % 16 < m.toNat % 16)).toNat)

theorem byte_sub_eq (a m : Byte) : a - m = BitVec.ofNat 8 (256 + a.toNat - m.toNat) := by
  bv_omega

theorem blockCompareN_eq (s : State) : blockCompareN s.regs.a (s.readByte s.hl) = searchDifference s := by
  have hborrow := (decide (s.regs.a.toNat % 16 < (s.readByte s.hl).toNat % 16)).toNat_le
  rw [blockCompareN, blockBorrow, bit_eq, searchDifference]
  bv_omega

/-- Z says that the byte matched, H that the low digits borrowed, P/V that the count is not used up (R374). -/
theorem flags_blockCompare (step : Word) (s : State) :
    (s.blockCompare step).flags =
      searchFlags s ((searchDifference s).getLsbD 1) ((searchDifference s).getLsbD 3) := by
  have hflags : (s.blockCompare step).flags = blockCompareFlags s.flags s.regs.a (s.readByte s.hl) (s.bc - 1) :=
    State.flags_setFlags _ _
  rw [hflags, blockCompareFlags, sub_beq_zero, blockCompareN_eq, sub_bne_zero, searchFlags, ← byte_sub_eq,
    BitVec.msb_eq_getLsbD_last]
  rfl

/-- An iteration of a search that does not go back. -/
theorem completes_blockCompare {i : Instr} {s : State} {step : Word}
    (he : exec i s = finish 16 (s.blockCompare step)) :
    Completes i s 16 [.f, .reg .b, .reg .c, .reg .h, .reg .l] fun t =>
      BlockStepped step s t ∧
        t.flags = searchFlags s ((searchDifference s).getLsbD 1) ((searchDifference s).getLsbD 3) :=
  completes_confined he (.of_blockCompare s step) rfl
    ⟨blockStepped_blockCompare false step s 16, flags_blockCompare step s⟩

/-- An iteration of a search that goes back to its own first byte. -/
theorem completes_blockCompare_repeat {i : Instr} {s : State} {step : Word}
    (he : exec i s = finishRepeat true (s.blockCompare step)) :
    Completes i s 21 [.pc, .draws, .f, .reg .b, .reg .c, .reg .h, .reg .l] fun t =>
      BlockStepped step s t ∧ t.pc = s.pc - 2 ∧ ∃ y x, t.flags = searchFlags s y x := by
  have hflags : ∃ y x, (s.blockCompare step).rewind.flags = searchFlags s y x := by
    rw [flags_rewind, flags_blockCompare]
    exact ⟨_, _, rfl⟩
  exact completes_repeat he (.of_blockCompare s step) (.head _) (by decide) (by decide) rfl
    ⟨blockStepped_blockCompare true step s 21, rfl, hflags⟩

/-- Settles O32: every form is one iteration, and the repeating forms go back unless BC was 1 or the byte matched. -/
theorem blockSearch : Obligations.BlockSearch := by
  intro s down step m borrow n touched stepped flags last
  have hrepeat := exec_blockCompareRepeat down s
  refine ⟨completes_blockCompare (exec_blockCompare down s), fun hend => ?last, fun hmore => ?again⟩
  case last =>
    have hstop : ¬(s.bc ≠ 1 ∧ s.regs.a ≠ s.readByte s.hl) := fun ⟨hbc, hne⟩ => hend.elim hbc hne
    rw [decide_eq_false hstop] at hrepeat
    exact completes_blockCompare hrepeat
  case again =>
    rw [decide_eq_true hmore] at hrepeat
    exact completes_blockCompare_repeat hrepeat

end Sys2Proof

/-! PROOF. The jumps, calls, restarts and returns (R390 to R410), and the return from an NMI (R515). A jump moves PC; a
call pushes PC first and a return pops it, and the return from an NMI is the push of the one met by the pop of the other. -/

namespace Sys2Proof

open Sys2Proof.Machine

/-! ## Jumps (R390 to R396) -/

/-- A relative target counts from the next instruction by the signed displacement, modulo 65536 (R122, R421). -/
theorem relative_eq (s : State) (e : Byte) : s.relative e = BitVec.ofInt 16 (s.pc.toNat + e.toInt) := by
  rw [BitVec.ofInt_add, BitVec.ofInt_natCast, BitVec.ofNat_toNat, BitVec.setWidth_eq, ← sext16_eq]
  rfl

theorem exec_jpCond (cc : Cond) (nn : Word) (s : State) :
    exec (.jpCond cc nn) s = finishIf (cc.on s.regs.f) 10 (s.jump nn) 10 s := by
  rw [← cond_eq]
  rfl

theorem exec_jrCond (k : JrCond) (e : Byte) (s : State) :
    exec (.jrCond k e) s = finishIf (k.on s.regs.f) 12 (s.jump (s.relative e)) 7 s := by
  rw [← jrCond_eq]
  rfl

/-- DJNZ counts B down and jumps unless B was 1 (R396). -/
theorem exec_djnz (e : Byte) (s : State) :
    exec (.djnz e) s = finishIf (decide (s.regs.b ≠ 1)) 13 ((s.setB (s.regs.b - 1)).jump (s.relative e)) 8
      (s.setB (s.regs.b - 1)) := by
  rw [← sub_bne_zero]
  rfl

section

variable {i : Instr} {s : State} {n m : Nat} {target : Word}

theorem completes_jump (he : exec i s = finish n (s.jump target)) : Completes i s n [.pc] fun t => t.pc = target :=
  completes_confined he (.of_jump s target) rfl rfl

/-- A jump on a condition, after an operation that both outcomes share. -/
theorem completes_jumpIf {u : State} {P : List Part} {F : List FlagName} {A : List Word} {taken : Bool}
    (he : exec i s = finishIf taken n (u.jump target) m u) (hu : Confined P F A s u) (hc : u.cycles = s.cycles) :
    Completes i s (if taken then n else m) (.pc :: P) fun t =>
      t.regs = u.regs ∧ t.pc = if taken then target else u.pc := by
  refine completes_confined he (hu.branch_jump taken target) ?cycles ?post
  case cycles => cases taken <;> exact hc
  case post => cases taken <;> exact ⟨rfl, rfl⟩

end

/-- Settles O33: every form is a jump or a jump on a condition; DJNZ counts B down before it. -/
theorem jumps : Obligations.Jumps := by
  intro s nn e near
  have hnear : near = s.relative e := (relative_eq s e).symm
  rw [hnear]
  refine ⟨?jp, fun cc => ?jpCond, ?jr, fun k => ?jrCond, ?jpHl, ?jpIx, ?jpIy, ?djnz⟩
  case jp | jr | jpHl | jpIx | jpIy => exact completes_jump rfl
  case jpCond =>
    have h := completes_jumpIf (exec_jpCond cc nn s) (.refl [] [] [] s) rfl
    rw [ite_self] at h
    exact h.mono fun t ⟨_, hpc⟩ => hpc
  case jrCond => exact (completes_jumpIf (exec_jrCond k e s) (.refl [] [] [] s) rfl).mono fun t ⟨_, hpc⟩ => hpc
  case djnz =>
    have hb : Confined [.reg .b] [] [] s (s.setB (s.regs.b - 1)) := (Confined.refl _ _ _ s).setB _ (.head _)
    have h := completes_jumpIf (exec_djnz e s) hb rfl
    simp only [decide_eq_true_eq] at h
    exact h.mono fun t ⟨hregs, hpc⟩ => ⟨congrArg RegFile.b hregs, hpc⟩

/-! ## Calls, restarts and returns (R400 to R410) -/

/-- From `s` to `t` the word `w` is pushed (R430). -/
def Pushed (w : Word) (s t : State) : Prop :=
  t.sp = s.sp - 2 ∧
    Stored [(s.sp - 1, BitVec.ofNat 8 (w.toNat / 256)), (s.sp - 2, BitVec.ofNat 8 (w.toNat % 256))] s t

/-- From `s` to `t` the word at SP is popped into PC (R431). -/
def Returned (s t : State) : Prop :=
  t.pc.toNat = (s.readByte s.sp).toNat + 256 * (s.readByte (s.sp + 1)).toNat ∧ t.sp = s.sp + 2

theorem finishIf_true (n m : Nat) (t s : State) : finishIf true n t m s = finish n t := rfl

theorem finishIf_false (n m : Nat) (t s : State) : finishIf false n t m s = finish m s := rfl

theorem exec_callCond (cc : Cond) (nn : Word) (s : State) :
    exec (.callCond cc nn) s = finishIf (cc.on s.regs.f) 17 (s.callTo nn) 10 s := by
  rw [← cond_eq]
  rfl

theorem exec_retCond (cc : Cond) (s : State) :
    exec (.retCond cc) s = finishIf (cc.on s.regs.f) 11 s.returnTo 5 s := by
  rw [← cond_eq]
  rfl

section

variable {i : Instr} {s : State} {n : Nat}

theorem completes_callTo {target : Word} (he : exec i s = finish n (s.callTo target)) :
    Completes i s n [.pc, .sp, .memory, .slots] fun t => t.pc = target ∧ Pushed s.pc s t :=
  have hstored := (stored_push16 s s.pc).congr (readByte_congr rfl rfl rfl rfl) rfl
  completes_confined he (.of_callTo s target) rfl ⟨rfl, rfl, hstored⟩

theorem completes_returnTo (he : exec i s = finish n s.returnTo) : Completes i s n [.pc, .sp] (Returned s) :=
  completes_confined he (.of_returnTo s) rfl ⟨toNat_readWord s s.sp, rfl⟩

/-- RETI and RETN restore the maskable enable as well (R404, R405). -/
theorem completes_returnFromInterrupt (he : exec i s = finish n s.returnFromInterrupt) :
    Completes i s n [.pc, .sp, .iff1] fun t => Returned s t ∧ t.iff1 = s.iff2 :=
  completes_confined he (.of_returnFromInterrupt s) rfl ⟨⟨toNat_readWord s s.sp, rfl⟩, rfl⟩

/-- A transfer that is not taken only spends its T-states. -/
theorem completes_notTaken (he : exec i s = finish n s) : Completes i s n [] fun _ => True :=
  completes_confined he (.refl [] [] [] s) rfl trivial

end

/-- Settles O34: every taken form is a call, a return or a return from an interrupt. -/
theorem callsAndReturns : Obligations.CallsAndReturns := by
  intro s nn called touched returned
  refine ⟨?call, fun cc h => ?callTaken, fun cc h => ?callNotTaken, fun k _ => ?rst, ?ret, fun cc h => ?retTaken,
    fun cc h => ?retNotTaken, ?reti, ?retn⟩
  case call | rst => exact completes_callTo rfl
  case ret => exact completes_returnTo rfl
  case reti | retn => exact completes_returnFromInterrupt rfl
  case callTaken => exact completes_callTo (by rw [exec_callCond, h, finishIf_true])
  case callNotTaken => exact completes_notTaken (by rw [exec_callCond, h, finishIf_false])
  case retTaken => exact completes_returnTo (by rw [exec_retCond, h, finishIf_true])
  case retNotTaken => exact completes_notTaken (by rw [exec_retCond, h, finishIf_false])

/-! ## The return from an NMI (R405, R515) -/

/-- A word pushed into system RAM is at the new top of the stack, and a pop brings SP back (R430, R431). -/
theorem Returned.of_pushed {w : Word} {s t u : State} (hpush : Pushed w s t) (hret : Returned t u)
    (hhigh : 0xC000 ≤ (s.sp - 1).toNat) (hlow : 0xC000 ≤ (s.sp - 2).toNat) : u.pc = w ∧ u.sp = s.sp := by
  obtain ⟨hsp, hread, -⟩ := hpush
  obtain ⟨hpc, hsp'⟩ := hret
  have hnext : t.sp + 1 = s.sp - 1 := by rw [hsp]; bv_omega
  have hhighByte := hread (s.sp - 1, _) (.head _) hhigh
  have hlowByte := hread (s.sp - 2, _) (.tail _ (.head _)) hlow
  rw [hnext, hsp, hhighByte, hlowByte] at hpc
  refine ⟨?_, ?_⟩
  · bv_omega
  · rw [hsp', hsp]
    bv_omega

/-- Settles O47: the acceptance pushes PC and keeps IFF2, and RETN pops PC and copies IFF2 into IFF1. -/
theorem nmiReturn : Obligations.NmiReturn := by
  intro s hnmi hiff hhigh hlow
  have hstep : cpuStep s = .next s.acceptNmi := by rw [cpuStep, if_pos hnmi]
  obtain ⟨-, -, -, -, hiff2, hsp, -, hstored, -⟩ :=
    enterInterrupt_all { s with nmiPending := false } s.iff2 (fun _ => 0x0066) 11
  have hpush : Pushed s.pc s s.acceptNmi := ⟨hsp, hstored⟩
  obtain ⟨u, hexec, -, hframe, hret, hiff1⟩ := completes_returnFromInterrupt (i := .retn) (s := s.acceptNmi) rfl
  obtain ⟨hpc, hspBack⟩ := hret.of_pushed hpush hhigh hlow
  have hkept : u.iff2 = s.acceptNmi.iff2 := hframe .iff2 (by decide)
  exact ⟨s.acceptNmi, u, hstep, hexec, hpc, hspBack, (hiff1.trans hiff2).trans hiff.symm, hkept.trans hiff2⟩

end Sys2Proof

/-! PROOF. How the marks of R601 move (O60): what an instruction writes is what its rule names, the exchanges move marks with the
values, and a turn of Run moves the marks as its CPU step does. -/

namespace Sys2Proof

open Sys2Proof.Machine

/-! ## What an instruction's rule writes (R601) -/

/-- The exchanges move marks; every other instruction clears those of what it writes (R436 to R438). -/
def Instr.isExchange (i : Instr) : Bool := decide (i = .exAfAf ∨ i = .exx ∨ i = .exDeHl)

/-- A conditional CALL or RET transfers where its condition holds; no other instruction has one to meet (R401, R403). -/
def Instr.transfers (i : Instr) (s : State) : Bool :=
  match i with
  | .retCond cc | .callCond cc _ => s.cond cc
  | _ => true

/-- `Instr.names` as a computation, with the condition on SP's move taken out. -/
def Instr.namesIf (i : Instr) (transfers : Bool) (l : Loc) : Bool :=
  match l with
  | .reg r => i.touches.contains (.reg r)
  | .flag k => i.flagsNamed.contains k
  | .ix => i.touches.contains .ix
  | .iy => i.touches.contains .iy
  | .sp => i.touches.contains .sp && transfers

theorem transfers_iff (i : Instr) (s : State) :
    i.transfers s = true ↔ ∀ cc nn, i = .retCond cc ∨ i = .callCond cc nn → cc.on s.regs.f = true := by
  cases i with
  | retCond | callCond => simp [Instr.transfers, cond_eq]
  | _ => simp [Instr.transfers]

theorem names_iff (i : Instr) (s : State) (l : Loc) : i.names s l ↔ i.namesIf (i.transfers s) l = true := by
  cases l with
  | sp => simp only [Instr.names, Instr.namesIf, Bool.and_eq_true, List.contains_iff_mem, transfers_iff]
  | _ => exact List.contains_iff_mem.symm

/-- The two tables agree: what an instruction gives a value is what its rule names. -/
theorem writes_table (i : Instr) (s : State) (hx : i.isExchange = false) :
    (allLocs.all fun l => (i.writes s).contains l == i.namesIf (i.transfers s) l) = true := by
  cases i with
  | exAfAf | exx | exDeHl => cases hx
  | ldPairNn p | ldPairMemNn p | incPair p | decPair p => cases p <;> rfl
  | popPair q => cases q <;> rfl
  | incReg r | decReg r | inRegC r | ldRegN r | ldRegReg r | ldRegMemHl r | ldRegMemIx r | ldRegMemIy r
  | rlcReg r | rrcReg r | rlReg r | rrReg r | slaReg r | sraReg r | srlReg r | resReg _ r | setReg _ r => cases r <;> rfl
  | retCond cc | callCond cc =>
    simp only [Instr.transfers, Instr.writes]
    cases s.cond cc <;> rfl
  | _ => rfl

theorem mem_writes_iff {i : Instr} (s : State) (hx : i.isExchange = false) (l : Loc) : l ∈ i.writes s ↔ i.names s l := by
  have h := List.all_eq_true.1 (writes_table i s hx) l (mem_allLocs l)
  rw [names_iff, ← beq_iff_eq.1 h]
  exact List.contains_iff_mem.symm

/-- An instruction that is no exchange clears the marks of what it writes and no other (R601). -/
theorem after_eq_written {i : Instr} (m : Marks) (s : State) (hx : i.isExchange = false) :
    m.after i s = m.written (i.writes s) := by
  cases i with
  | exAfAf | exx | exDeHl => cases hx
  | _ => rfl

/-- A location that the rule does not name is as before (R15). -/
theorem exec_loc_same {i : Instr} {s t : State} (he : exec i s = .next t) {l : Loc} (hl : ¬ i.names s l) : l.same s t := by
  obtain ⟨hparts, hflags, -⟩ := instructionFrame i s t he
  have part : ∀ p, p ≠ .cycles → p ∉ i.touches → p.same s t := fun p hc ht => hparts p (by simp [hc, ht])
  cases l with
  | reg r => exact part (.reg r) (by simp) hl
  | flag k => exact hflags k hl
  | ix => exact part .ix (by simp) hl
  | iy => exact part .iy (by simp) hl
  | sp =>
    by_cases ht : Part.sp ∈ i.touches
    · obtain ⟨cc, nn, hi, hcc⟩ : ∃ cc nn, (i = .retCond cc ∨ i = .callCond cc nn) ∧ ¬ cc.on s.regs.f = true := by
        by_contra hnone
        exact hl ⟨ht, fun cc nn hi => by_contra fun hcc => hnone ⟨cc, nn, hi, hcc⟩⟩
      rw [Bool.not_eq_true] at hcc
      rcases hi with rfl | rfl
      · rw [exec_retCond, hcc, finishIf_false] at he
        obtain rfl := Host.Outcome.next.inj he
        rfl
      · rw [exec_callCond, hcc, finishIf_false] at he
        obtain rfl := Host.Outcome.next.inj he
        rfl
    · exact part .sp (by simp) ht

/-! ## How the marks move (R601, R21) -/

/-- An instruction that is no exchange clears the marks of what its rule names and of what it changes (R601). -/
theorem marksMove_written {i : Instr} (s : State) (hx : i.isExchange = false) (l : Loc) :
    (i.names s l → l ∉ (s.marks.after i s).unwritten) ∧
      (¬ i.names s l → (l ∈ (s.marks.after i s).unwritten ↔ l ∈ s.marks.unwritten)) ∧
      (l ∈ shadowLocs → (l ∈ (s.marks.after i s).shadow ↔ l ∈ s.marks.shadow)) ∧
      ∀ t, exec i s = .next t → ¬ l.same s t → l ∉ (s.marks.after i s).unwritten := by
  have hmem : l ∈ (s.marks.after i s).unwritten ↔ l ∈ s.marks.unwritten ∧ ¬ i.names s l := by
    rw [after_eq_written _ _ hx, Marks.mem_written, mem_writes_iff s hx]
  refine ⟨fun hn hm => (hmem.1 hm).2 hn, fun hn => ⟨fun hm => (hmem.1 hm).1, fun hm => hmem.2 ⟨hm, hn⟩⟩, fun hs => ?_,
    fun t he hne hm => hne (exec_loc_same he (hmem.1 hm).2)⟩
  rw [after_eq_written _ _ hx]
  exact Marks.mem_written_shadow _ _ _ hs

/-- The marks of exchanged locations change places with the shadow's, every other mark stays (R437, R438). -/
theorem exchanged_marks (m : Marks) (locs : List Loc) (hlocs : ∀ l ∈ locs, l ∈ shadowLocs) (l : Loc) :
    (l ∈ locs → (l ∈ (m.exchanged locs).unwritten ↔ l ∈ m.shadow) ∧
      (l ∈ (m.exchanged locs).shadow ↔ l ∈ m.unwritten)) ∧
    (l ∉ locs → (l ∈ (m.exchanged locs).unwritten ↔ l ∈ m.unwritten) ∧
      (l ∈ shadowLocs → (l ∈ (m.exchanged locs).shadow ↔ l ∈ m.shadow))) := by
  refine ⟨fun h => ⟨?_, ?_⟩, fun h => ⟨?_, fun hs => ?_⟩⟩
  · rw [Marks.mem_exchanged, if_pos h]
  · rw [Marks.mem_exchanged_shadow _ _ _ (hlocs l h), if_pos h]
  · rw [Marks.mem_exchanged, if_neg h]
  · rw [Marks.mem_exchanged_shadow _ _ _ hs, if_neg h]

/-- The marks that a CPU step moves on to, case by case (R530, R601). -/
theorem stepMarks_cases (s : State) :
    ((s.nmiPending = true ∨ s.intCondition = true) → s.stepMarks = s.marks.written [.sp]) ∧
    (¬ (s.nmiPending = true ∨ s.intCondition = true) →
      (s.halted = true → s.stepMarks = s.marks) ∧
      (s.halted = false → ∀ d, s.decodeAtPc = .ok d → s.stepMarks = s.marks.after d.instr s)) := by
  refine ⟨fun h => ?_, fun h => ⟨fun hh => ?_, fun hh d hd => ?_⟩⟩
  · rw [State.stepMarks, if_pos (by simpa using h)]
  · rw [State.stepMarks, if_neg (by simpa using h), if_pos hh]
  · simp only [not_or, Bool.not_eq_true] at h
    exact stepMarks_of_decode hd h.1 h.2 hh

/-- Entering Run does not change what a step marks. -/
theorem stepMarks_enterRun (s : State) : s.enterRun.stepMarks = s.stepMarks := by
  unfold State.stepMarks
  have hd : s.enterRun.decodeAtPc = s.decodeAtPc := rfl
  rw [hd]
  cases s.decodeAtPc with
  | ok d => simp only [Marks.after_enterRun]; rfl
  | error e => rfl

/-- EX DE,HL moves no other location (R436). -/
theorem swapDeHl_of_notMem {l : Loc} (h : l ∉ [Loc.reg .d, .reg .e, .reg .h, .reg .l]) : l.swapDeHl = l := by
  cases l with
  | reg r => cases r with
    | d | e | h | l => exact absurd (by decide) h
    | _ => rfl
  | _ => rfl

/-- Where Run does not return at its entry, a turn is R601's check and then the body of the loop. -/
theorem runIteration_eq {s : State} (hr : s.runState = .running ∨ s.powered = true ∧ s.fault = none)
    (setting : UnwrittenRead) (frameCycles : Nat) :
    runIteration setting frameCycles s = s.under setting (s.enterRun.loopBody frameCycles) := by
  have hstays : ¬ (s.runState = .idle ∧ (s.powered = false ∨ s.fault ≠ none)) := by
    rintro ⟨hidle, hend⟩
    rcases hr with hrun | ⟨hp, hnone⟩
    · cases hidle.symm.trans hrun
    · rcases hend with hoff | hfault
      · cases hp.symm.trans hoff
      · exact hfault hnone
  have hturn : s.turn frameCycles = s.enterRun.loopBody frameCycles := by
    rcases turn_cases frameCycles s with ⟨hidle, hend, -⟩ | ⟨-, ht⟩
    · exact absurd ⟨hidle, hend⟩ hstays
    · exact ht
  rw [← hturn]
  rcases runIteration_cases setting frameCycles s with ⟨hidle, hend, -⟩ | ⟨-, hi⟩
  · exact absurd ⟨hidle, hend⟩ hstays
  · exact hi

/-- Where R601's check lets a turn pass, the outcome is the machine's. -/
theorem eq_of_under_machine {setting : UnwrittenRead} {s : State} {o o' : Host.Outcome State Fault Refusal}
    (h : s.under setting o = .machine o') : o = o' := by
  rcases under_cases setting s o with ⟨l, -, -, -, hu⟩ | ⟨-, hu⟩
  · cases h.symm.trans hu
  · exact ModelOutcome.machine.inj (hu.symm.trans h)

/-- A turn of Run that goes on is a CPU step from the running state, under either setting (R542, R601). -/
theorem runIteration_next {setting : UnwrittenRead} {frameCycles : Nat} {s t : State}
    (hr : s.runState = .running ∨ s.powered = true ∧ s.fault = none)
    (h : runIteration setting frameCycles s = .machine (.next t)) :
    ∃ u, cpuStep s.enterRun.moveMarks = .next u ∧ t = (u.tick (u.cycles - s.cycles)).crossFrames frameCycles := by
  rw [runIteration_eq hr] at h
  have hbody := eq_of_under_machine h
  rcases loopBody_cases frameCycles s.enterRun with ⟨u, hu, hb⟩ | ⟨f, -, hb⟩ | ⟨r, -, hb⟩
  · exact ⟨u, hu, Host.Outcome.next.inj (hbody.symm.trans hb)⟩
  · cases hbody.symm.trans hb
  · cases hbody.symm.trans hb

/-- A turn of Run that goes on leaves the marks that its CPU step moved on to. -/
theorem runIteration_marks {setting : UnwrittenRead} {frameCycles : Nat} {s t : State}
    (hr : s.runState = .running ∨ s.powered = true ∧ s.fault = none)
    (h : runIteration setting frameCycles s = .machine (.next t)) : t.marks = s.stepMarks := by
  obtain ⟨u, hu, rfl⟩ := runIteration_next hr h
  have hmarks : u.marks = s.enterRun.stepMarks := cpuStep_marks hu
  exact hmarks.trans (stepMarks_enterRun s)

/-- Settles O60: an instruction moves the marks by its tables of writes or by its exchange, and a turn of Run by its CPU
step. -/
theorem marksMove : Obligations.MarksMove := by
  intro s i m shadowKept kept exchanged
  refine ⟨fun h1 h2 h3 l => ?written, ?exAfAf, ?exx, ?exDeHl, fun setting frameCycles t hr ht => ?turn⟩
  case written =>
    have hx : i.isExchange = false := by simp [Instr.isExchange, h1, h2, h3]
    obtain ⟨hnamed, hother, hshadow, hchanged⟩ := marksMove_written s hx l
    exact ⟨hnamed, fun hn => ⟨hother hn, hshadow⟩, hshadow, hchanged⟩
  case exAfAf =>
    rintro rfl
    have moves := exchanged_marks s.marks afLocs (by decide)
    have hflags : ∀ k, Loc.flag k ∈ afLocs := by intro k; cases k <;> decide
    have hregs : ∀ r, r ≠ .a → Loc.reg r ∉ afLocs := by intro r; cases r <;> decide
    have hwords : ∀ l ∈ [Loc.ix, .iy, .sp], l ∉ afLocs := by decide
    exact ⟨(moves _).1 (by decide), fun k => (moves _).1 (hflags k), fun r hr => (moves _).2 (hregs r hr),
      fun l hl => (moves l).2 (hwords l hl)⟩
  case exx =>
    rintro rfl
    have moves := exchanged_marks s.marks exxLocs (by decide)
    have hflags : ∀ k, Loc.flag k ∉ exxLocs := by intro k; cases k <;> decide
    have hregs : ∀ r, r ≠ .a → Loc.reg r ∈ exxLocs := by intro r; cases r <;> decide
    have hwords : ∀ l ∈ [Loc.ix, .iy, .sp], l ∉ exxLocs := by decide
    exact ⟨(moves _).2 (by decide), fun k => (moves _).2 (hflags k), fun r hr => (moves _).1 (hregs r hr),
      fun l hl => (moves l).2 (hwords l hl)⟩
  case exDeHl =>
    rintro rfl
    have moves := Marks.mem_swappedDeHl s.marks
    refine ⟨(moves (.reg .d)).1, (moves (.reg .e)).1, (moves (.reg .h)).1, (moves (.reg .l)).1, fun l =>
      ⟨(moves l).2, fun hl => ⟨?_, (moves l).2⟩⟩⟩
    have hmove := (moves l).1
    rwa [swapDeHl_of_notMem hl] at hmove
  case turn =>
    intro accepts
    rw [runIteration_marks hr ht]
    obtain ⟨haccept, hordinary⟩ := stepMarks_cases s
    refine ⟨fun ha l => ?_, fun ha => (hordinary ha).1, fun ha => (hordinary ha).2⟩
    rw [haccept ha]
    refine ⟨?_, Marks.mem_written_shadow _ _ l⟩
    rw [Marks.mem_written, List.mem_singleton]

end Sys2Proof

/-! PROOF. Two states that differ in registers only (R601): what is read from them agrees where these registers do, and each
operation of an instruction keeps them so. -/

namespace Sys2Proof

open Sys2Proof.Machine

/-! ## Agreement but for registers -/

/-- The registers that may hold no value (R601). -/
def Machine.State.files (s : State) : DrawnRegisters := ⟨s.regs, s.shadow, s.ix, s.iy, s.sp⟩

/-- The state with other such registers. -/
def Machine.State.withFiles (s : State) (g : DrawnRegisters) : State :=
  { s with regs := g.regs, shadow := g.shadow, ix := g.ix, iy := g.iy, sp := g.sp }

/-- Two states differ in registers that may hold no value only, and agree at these locations. -/
structure Alike (locs : List Loc) (s t : State) : Prop where
  rest : s.withFiles t.files = t
  locs : ∀ l ∈ locs, l.same s t

/-- The named flags of a computation do not depend on the flags before it. -/
theorem named_of {F : List FlagName} (g : FlagBits → FlagBits) (old old' : FlagBits)
    (hg : ∀ old old', F.map (·.of (g old')) = F.map (·.of (g old))) :
    F.map (·.of (g old')) = F.map (·.of (g old)) :=
  hg old old'

/-- F is no register of its own: its bits are. -/
def Loc.isRegister : Loc → Bool
  | .flag _ => false
  | _ => true

/-- Agreement at a location looks at the registers only. -/
theorem Loc.same_files {l : Loc} {s t u v : State} (h : l.same s t) (hu : u.files = s.files) (hv : v.files = t.files) :
    l.same u v := by
  simp only [State.files, DrawnRegisters.mk.injEq] at hu hv
  obtain ⟨hr, -, hx, hy, hs⟩ := hu
  obtain ⟨hr', -, hx', hy', hs'⟩ := hv
  cases l with
  | reg r =>
    show v.regs.get r = u.regs.get r
    rw [hr, hr']
    exact h
  | flag k =>
    show k.of (.ofByte v.regs.f) = k.of (.ofByte u.regs.f)
    rw [hr, hr']
    exact h
  | ix => exact hx'.trans (h.trans hx.symm)
  | iy => exact hy'.trans (h.trans hy.symm)
  | sp => exact hs'.trans (h.trans hs.symm)

namespace Alike

section

variable {L : List Loc} {s t : State}

theorem start (h : Alike L s t) : Alike [] s t := ⟨h.rest, fun _ hl => absurd hl List.not_mem_nil⟩

theorem mono (h : Alike L s t) {L' : List Loc} (hsub : ∀ l ∈ L', l ∈ L) : Alike L' s t :=
  ⟨h.rest, fun l hl => h.locs l (hsub l hl)⟩

/-! ### Values read -/

/-- All but the registers is the same, and so is what is computed from it. -/
theorem field (h : Alike L s t) {α : Type} (f : State → α) (hf : ∀ x g, f (x.withFiles g) = f x) :
    f t = f s := by
  rw [← h.rest]
  exact hf s _

theorem readByte (h : Alike L s t) {a a' : Word} (ha : a' = a) : t.readByte a' = s.readByte a := by
  rw [ha]
  exact h.field (·.readByte a) fun _ _ => readByte_congr rfl rfl rfl rfl a

theorem reg8 (h : Alike L s t) {r : Reg8} (hr : .reg r ∈ L) : t.reg8 r = s.reg8 r := h.locs _ hr

theorem a (h : Alike L s t) (ha : .reg .a ∈ L) : t.regs.a = s.regs.a := h.locs _ ha

theorem b (h : Alike L s t) (hb : .reg .b ∈ L) : t.regs.b = s.regs.b := h.locs _ hb

theorem flag (h : Alike L s t) {k : FlagName} (hk : .flag k ∈ L) : k.of t.flags = k.of s.flags := h.locs _ hk

theorem carry (h : Alike L s t) (hc : .flag .c ∈ L) : t.flags.c = s.flags.c := h.locs _ hc

theorem sp (h : Alike L s t) (hs : .sp ∈ L) : t.sp = s.sp := h.locs _ hs

theorem ix (h : Alike L s t) (hx : .ix ∈ L) : t.ix = s.ix := h.locs _ hx

theorem iy (h : Alike L s t) (hy : .iy ∈ L) : t.iy = s.iy := h.locs _ hy

theorem bc (h : Alike L s t) (hb : bcLocs ⊆ L) : t.bc = s.bc :=
  congrArg₂ join (h.locs _ (hb (.head _))) (h.locs _ (hb (.tail _ (.head _))))

theorem de (h : Alike L s t) (hd : deLocs ⊆ L) : t.de = s.de :=
  congrArg₂ join (h.locs _ (hd (.head _))) (h.locs _ (hd (.tail _ (.head _))))

theorem hl (h : Alike L s t) (hh : hlLocs ⊆ L) : t.hl = s.hl :=
  congrArg₂ join (h.locs _ (hh (.head _))) (h.locs _ (hh (.tail _ (.head _))))

/-- F is its eight bits. -/
theorem af (h : Alike L s t) (ha : afLocs ⊆ L) : t.af = s.af := by
  have hall : ∀ k, Loc.flag k ∈ afLocs := by intro k; cases k <;> decide
  have hk : ∀ k : FlagName, k.of (.ofByte t.regs.f) = k.of (.ofByte s.regs.f) := fun k => h.flag (ha (hall k))
  have hbits : FlagBits.ofByte t.regs.f = .ofByte s.regs.f := by
    rw [FlagBits.mk.injEq]
    exact ⟨hk .s, hk .z, hk .y, hk .h, hk .x, hk .pv, hk .n, hk .c⟩
  have hf : t.regs.f = s.regs.f := by
    rw [← FlagBits.toByte_ofByte t.regs.f, hbits, FlagBits.toByte_ofByte]
  exact congrArg₂ join (h.a (ha (.head _))) hf

theorem pair (h : Alike L s t) {p : Pair} (hp : p.locs ⊆ L) : t.pair p = s.pair p :=
  match p with
  | .bc => h.bc hp
  | .de => h.de hp
  | .hl => h.hl hp
  | .sp => h.sp (hp (.head _))

theorem stackPair (h : Alike L s t) {q : StackPair} (hq : q.locs ⊆ L) : t.stackPair q = s.stackPair q :=
  match q with
  | .bc => h.bc hq
  | .de => h.de hq
  | .hl => h.hl hq
  | .af => h.af hq

theorem ixPair (h : Alike L s t) {p : IxPair} (hp : p.locs ⊆ L) : t.ixPair p = s.ixPair p :=
  match p with
  | .bc => h.bc hp
  | .de => h.de hp
  | .ix => h.ix (hp (.head _))
  | .sp => h.sp (hp (.head _))

theorem iyPair (h : Alike L s t) {p : IyPair} (hp : p.locs ⊆ L) : t.iyPair p = s.iyPair p :=
  match p with
  | .bc => h.bc hp
  | .de => h.de hp
  | .iy => h.iy (hp (.head _))
  | .sp => h.sp (hp (.head _))

theorem eaIx (h : Alike L s t) (d : Byte) (hx : .ix ∈ L) : t.ea .ix d = s.ea .ix d := congrArg (· + sext16 d) (h.ix hx)

theorem eaIy (h : Alike L s t) (d : Byte) (hy : .iy ∈ L) : t.ea .iy d = s.ea .iy d := congrArg (· + sext16 d) (h.iy hy)

/-- PC is the same, and so is the target of a relative jump. -/
theorem relative (h : Alike L s t) (e : Byte) : t.relative e = s.relative e :=
  congrArg (· + sext16 e) (h.field State.pc fun _ _ => rfl)

theorem portA (h : Alike L s t) {n : Byte} (ha : .reg .a ∈ L) : t.portA n = s.portA n := congrArg (join · n) (h.a ha)

theorem cond (h : Alike L s t) {cc : Cond} (hc : cc.loc ∈ L) : t.cond cc = s.cond cc := by
  have hk := h.locs _ hc
  cases cc with
  | nz | nc | po | p => exact congrArg (!·) hk
  | z | c | pe | m => exact hk

theorem jrCond (h : Alike L s t) {k : JrCond} (hc : k.loc ∈ L) : t.jrCond k = s.jrCond k := by
  have hk := h.locs _ hc
  cases k with
  | nz | nc => exact congrArg (!·) hk
  | z | c => exact hk

theorem stackTop (h : Alike L s t) (hs : .sp ∈ L) : t.stackTop = s.stackTop :=
  have hsp := h.sp hs
  congrArg₂ join (h.readByte (congrArg (· + 1) hsp)) (h.readByte hsp)

theorem readWord (h : Alike L s t) (a : Word) : t.readWord a = s.readWord a :=
  congrArg₂ join (h.readByte rfl) (h.readByte rfl)

/-! ### Operations on all but the registers -/

/-- An operation that neither reads nor writes these registers. -/
theorem outside (h : Alike L s t) {α : Type} (f : α → State → State) {v v' : α} (hv : v' = v)
    (hf : ∀ v x g, f v (x.withFiles g) = (f v x).withFiles g) : Alike L (f v s) (f v' t) := by
  subst hv
  have hfiles : ∀ x : State, (f v' x).files = x.files := fun x => (congrArg State.files (hf v' x x.files)).symm ▸ rfl
  refine ⟨?_, fun l hl => Loc.same_files (h.locs l hl) (hfiles s) (hfiles t)⟩
  rw [hfiles, ← hf, h.rest]

theorem jump (h : Alike L s t) {w w' : Word} (hw : w' = w) : Alike L (s.jump w) (t.jump w') :=
  h.outside (fun w x => x.jump w) hw fun _ _ _ => rfl

theorem drew (h : Alike L s t) : Alike L s.drew t.drew := h.outside (fun _ x => x.drew) (rfl : () = ()) fun _ _ _ => rfl

theorem store (h : Alike L s t) {a a' : Word} {v v' : Byte} (ha : a' = a) (hv : v' = v) :
    Alike L (s.store a v) (t.store a' v') :=
  h.outside (fun p x => x.store p.1 p.2) (v := (a, v)) (v' := (a', v')) (by rw [ha, hv]) fun _ _ _ => rfl

theorem storeWord (h : Alike L s t) {a a' w w' : Word} (ha : a' = a) (hw : w' = w) :
    Alike L (s.storeWord a w) (t.storeWord a' w') :=
  (h.store ha (congrArg lo8 hw)).store (congrArg (· + 1) ha) (congrArg hi8 hw)

theorem ioRead (h : Alike L s t) {p p' : Word} (hp : p' = p) : Alike L (s.ioRead p) (t.ioRead p') :=
  h.outside (fun p x => x.ioRead p) hp fun _ _ _ => rfl

theorem ioWrite (h : Alike L s t) {p p' : Word} {v v' : Byte} (hp : p' = p) (hv : v' = v) :
    Alike L (s.ioWrite p v) (t.ioWrite p' v') :=
  h.outside (fun q x => x.ioWrite q.1 q.2) (v := (p, v)) (v' := (p', v')) (by rw [hp, hv]) fun _ _ _ => rfl

/-! ### Operations on the registers -/

theorem setReg8 (h : Alike L s t) (r : Reg8) {v v' : Byte} (hv : v' = v) :
    Alike (.reg r :: L) (s.setReg8 r v) (t.setReg8 r v') := by
  subst hv
  refine ⟨congrArg (·.setReg8 r v') h.rest, fun l hl => ?_⟩
  have hf : ∀ x : State, (x.setReg8 r v').regs.f = x.regs.f := fun x => RegFile.set_f x.regs r v'
  cases l with
  | reg r' =>
    show (t.regs.set r v').get r' = (s.regs.set r v').get r'
    rw [RegFile.get_set, RegFile.get_set]
    split
    · rfl
    · next hne =>
      exact h.locs (.reg r') ((List.mem_cons.1 hl).resolve_left fun he => hne (Loc.reg.inj he).symm)
  | flag k =>
    show k.of (.ofByte (t.setReg8 r v').regs.f) = k.of (.ofByte (s.setReg8 r v').regs.f)
    rw [hf, hf]
    exact h.locs (.flag k) ((List.mem_cons.1 hl).resolve_left (by simp))
  | ix => exact h.locs .ix ((List.mem_cons.1 hl).resolve_left (by simp))
  | iy => exact h.locs .iy ((List.mem_cons.1 hl).resolve_left (by simp))
  | sp => exact h.locs .sp ((List.mem_cons.1 hl).resolve_left (by simp))

theorem setA (h : Alike L s t) {v v' : Byte} (hv : v' = v) : Alike (.reg .a :: L) (s.setA v) (t.setA v') := h.setReg8 .a hv

theorem setB (h : Alike L s t) {v v' : Byte} (hv : v' = v) : Alike (.reg .b :: L) (s.setB v) (t.setB v') := h.setReg8 .b hv

theorem setBc (h : Alike L s t) {w w' : Word} (hw : w' = w) : Alike (bcLocs ++ L) (s.setBc w) (t.setBc w') :=
  (h.setReg8 .c (congrArg lo8 hw)).setReg8 .b (congrArg hi8 hw)

theorem setDe (h : Alike L s t) {w w' : Word} (hw : w' = w) : Alike (deLocs ++ L) (s.setDe w) (t.setDe w') :=
  (h.setReg8 .e (congrArg lo8 hw)).setReg8 .d (congrArg hi8 hw)

theorem setHl (h : Alike L s t) {w w' : Word} (hw : w' = w) : Alike (hlLocs ++ L) (s.setHl w) (t.setHl w') :=
  (h.setReg8 .l (congrArg lo8 hw)).setReg8 .h (congrArg hi8 hw)

theorem setSp (h : Alike L s t) {w w' : Word} (hw : w' = w) : Alike (.sp :: L) (s.setSp w) (t.setSp w') := by
  subst hw
  refine ⟨congrArg (·.setSp w') h.rest, fun l hl => ?_⟩
  cases l with
  | sp => rfl
  | _ => exact h.locs _ ((List.mem_cons.1 hl).resolve_left (by simp))

theorem setIx (h : Alike L s t) {w w' : Word} (hw : w' = w) : Alike (.ix :: L) (s.setIndex .ix w) (t.setIndex .ix w') := by
  subst hw
  refine ⟨congrArg (·.setIndex .ix w') h.rest, fun l hl => ?_⟩
  cases l with
  | ix => rfl
  | _ => exact h.locs _ ((List.mem_cons.1 hl).resolve_left (by simp))

theorem setIy (h : Alike L s t) {w w' : Word} (hw : w' = w) : Alike (.iy :: L) (s.setIndex .iy w) (t.setIndex .iy w') := by
  subst hw
  refine ⟨congrArg (·.setIndex .iy w') h.rest, fun l hl => ?_⟩
  cases l with
  | iy => rfl
  | _ => exact h.locs _ ((List.mem_cons.1 hl).resolve_left (by simp))

theorem setPair (h : Alike [] s t) (p : Pair) {w w' : Word} (hw : w' = w) : Alike p.locs (s.setPair p w) (t.setPair p w') :=
  match p with
  | .bc => h.setBc hw
  | .de => h.setDe hw
  | .hl => h.setHl hw
  | .sp => h.setSp hw

/-- New flags, of which those named are the same on both sides; of the others nothing is known. -/
theorem setFlags (h : Alike L s t) (F : List FlagName) {b b' : FlagBits}
    (hb : F.map (·.of b') = F.map (·.of b)) :
    Alike (L.filter Loc.isRegister ++ F.map Loc.flag) (s.setFlags b) (t.setFlags b') := by
  refine ⟨?_, fun l hl => ?_⟩
  · rw [← h.rest]
    rfl
  · rw [List.mem_append, List.mem_filter, List.mem_map] at hl
    cases l with
    | reg r =>
      have hr := h.locs (.reg r) (hl.resolve_right (by simp)).1
      exact (RegFile.get_with_f ..).trans (Eq.trans hr (RegFile.get_with_f ..).symm)
    | flag k =>
      have hk : k ∈ F := by simpa [Loc.isRegister] using hl
      show k.of (t.setFlags b').flags = k.of (s.setFlags b).flags
      rw [State.flags_setFlags, State.flags_setFlags]
      exact List.map_inj_left.1 hb k hk
    | _ => exact h.locs _ (hl.resolve_right (by simp)).1

theorem popped (h : Alike [] s t) (hs : t.sp = s.sp) : Alike [.sp] s.popped t.popped := h.setSp (congrArg (· + 2) hs)

theorem setStackPair (h : Alike [.sp] s t) (q : StackPair) {w w' : Word} (hw : w' = w) :
    Alike (.sp :: q.locs) (s.setStackPair q w) (t.setStackPair q w') := by
  cases q with
  | bc => exact (h.setBc hw).mono (by decide)
  | de => exact (h.setDe hw).mono (by decide)
  | hl => exact (h.setHl hw).mono (by decide)
  | af =>
    have hset : ∀ x : State, ∀ w, x.setStackPair .af w = (x.setA (hi8 w)).setFlags (.ofByte (lo8 w)) := Confined.setAf_eq
    rw [hset, hset, hw]
    exact ((h.setA rfl).setFlags [.s, .z, .y, .h, .x, .pv, .n, .c] rfl).mono (by decide)

theorem push16 (h : Alike L s t) (hs : t.sp = s.sp) {w w' : Word} (hw : w' = w) :
    Alike (.sp :: L) (s.push16 w) (t.push16 w') :=
  ((h.store (congrArg (· - 1) hs) (congrArg hi8 hw)).store (congrArg (· - 2) hs) (congrArg lo8 hw)).setSp
    (congrArg (· - 2) hs)

end

end Alike

/-! ## Every instruction but the exchanges -/

/-- Two meanings end alike: after as many T-states, in states that agree at these locations and but for registers. -/
def EndAlike (locs : List Loc) (o o' : Host.Outcome State Fault Refusal) : Prop :=
  ∃ n u v, o = finish n u ∧ o' = finish n v ∧ Alike locs u v

namespace Alike

section

variable {L : List Loc} {s t u v : State}

theorem finish (h : Alike L u v) (n : Nat) : EndAlike L (Machine.finish n u) (Machine.finish n v) := ⟨n, u, v, rfl, rfl, h⟩

theorem branch (c : Bool) (h : Alike L u v) (h' : Alike L s t) :
    Alike L (if c then u else s) (if c then v else t) := by
  cases c
  · exact h'
  · exact h

theorem finishIf {c c' : Bool} (hc : c' = c) (n m : Nat) (h : Alike L u v) (h' : Alike L s t) :
    EndAlike L (Machine.finishIf c n u m s) (Machine.finishIf c' n v m t) := by
  subst hc
  exact ⟨_, _, _, rfl, rfl, h.branch c' h'⟩

/-- A transfer that both take. -/
theorem finishTaken {c c' : Bool} (h : Alike L u v) (hc : c = true) (hc' : c' = true) (n m : Nat) (s t : State) :
    EndAlike L (Machine.finishIf c n u m s) (Machine.finishIf c' n v m t) := by
  subst hc hc'
  exact h.finish n

/-- A transfer that neither takes. -/
theorem finishNotTaken {c c' : Bool} (h : Alike L s t) (hc : c = false) (hc' : c' = false) (n m : Nat) (u v : State) :
    EndAlike L (Machine.finishIf c n u m s) (Machine.finishIf c' n v m t) := by
  subst hc hc'
  exact h.finish m

/-! ### Arithmetic and logic -/

/-- Every operation of two bytes into A that names all eight flags (R251 to R257, R267). -/
theorem setResult (h : Alike [] s t) {r r' : Byte × FlagBits} (hr : r' = r) :
    Alike afLocs (s.setResult r) (t.setResult r') := by
  subst hr
  exact ((h.setA rfl).setFlags [.s, .z, .y, .h, .x, .pv, .n, .c] rfl).mono (by decide)

theorem accCp (h : Alike [] s t) (ha : t.regs.a = s.regs.a) {v v' : Byte} (hv : v' = v) :
    Alike flagLocs (s.accCp v) (t.accCp v') :=
  h.setFlags [.s, .z, .y, .h, .x, .pv, .n, .c] (by rw [ha, hv])

theorem incReg (h : Alike [] s t) {r : Reg8} (hr : t.reg8 r = s.reg8 r) :
    Alike (.reg r :: flagLocsButC) ((s.setReg8 r (s.reg8 r + 1)).setFlags (incFlags s.flags (s.reg8 r)))
      ((t.setReg8 r (t.reg8 r + 1)).setFlags (incFlags t.flags (t.reg8 r))) := by
  rw [hr]
  exact (h.setReg8 r rfl).setFlags [.s, .z, .y, .h, .x, .pv, .n] (named_of (incFlags · (s.reg8 r)) _ _ fun _ _ => rfl)

theorem decReg (h : Alike [] s t) {r : Reg8} (hr : t.reg8 r = s.reg8 r) :
    Alike (.reg r :: flagLocsButC) ((s.setReg8 r (s.reg8 r - 1)).setFlags (decFlags s.flags (s.reg8 r)))
      ((t.setReg8 r (t.reg8 r - 1)).setFlags (decFlags t.flags (t.reg8 r))) := by
  rw [hr]
  exact (h.setReg8 r rfl).setFlags [.s, .z, .y, .h, .x, .pv, .n] (named_of (decFlags · (s.reg8 r)) _ _ fun _ _ => rfl)

theorem incByte (h : Alike [] s t) {a a' : Word} (ha : a' = a) : Alike flagLocsButC (s.incByte a) (t.incByte a') := by
  have hv := h.readByte ha
  refine (h.store ha (congrArg (· + 1) hv)).setFlags [.s, .z, .y, .h, .x, .pv, .n] ?_
  rw [hv]
  exact named_of (incFlags · (s.readByte a)) _ _ fun _ _ => rfl

theorem decByte (h : Alike [] s t) {a a' : Word} (ha : a' = a) : Alike flagLocsButC (s.decByte a) (t.decByte a') := by
  have hv := h.readByte ha
  refine (h.store ha (congrArg (· - 1) hv)).setFlags [.s, .z, .y, .h, .x, .pv, .n] ?_
  rw [hv]
  exact named_of (decFlags · (s.readByte a)) _ _ fun _ _ => rfl

/-- CPL names H, N, Y and X (R266). -/
theorem cpl (h : Alike [] s t) (ha : t.regs.a = s.regs.a) :
    Alike [.reg .a, .flag .h, .flag .n, .flag .y, .flag .x]
      ((s.setA (~~~s.regs.a)).setFlags
        { s.flags with h := true, n := true, y := (~~~s.regs.a).getLsbD 5, x := (~~~s.regs.a).getLsbD 3 })
      ((t.setA (~~~t.regs.a)).setFlags
        { t.flags with h := true, n := true, y := (~~~t.regs.a).getLsbD 5, x := (~~~t.regs.a).getLsbD 3 }) := by
  rw [ha]
  exact (h.setA rfl).setFlags [.h, .n, .y, .x] rfl

/-- DAA looks at C, H and N only (R265). -/
theorem daa_congr (a : Byte) {o o' : FlagBits} (hc : o'.c = o.c) (hh : o'.h = o.h) (hn : o'.n = o.n) :
    (Machine.daa a o').1 = (Machine.daa a o).1 ∧
      [FlagName.s, .z, .y, .h, .x, .pv, .c].map (·.of (Machine.daa a o').2) =
        [FlagName.s, .z, .y, .h, .x, .pv, .c].map (·.of (Machine.daa a o).2) := by
  obtain ⟨_, _, _, _, _, _, _, _⟩ := o
  obtain ⟨_, _, _, _, _, _, _, _⟩ := o'
  obtain rfl : _ = _ := hc
  obtain rfl : _ = _ := hh
  obtain rfl : _ = _ := hn
  exact ⟨rfl, rfl⟩

/-- DAA reads A, C, H and N and leaves N (R265). -/
theorem daa (h : Alike [.reg .a, .flag .c, .flag .h, .flag .n] s t) :
    Alike [.reg .a, .flag .s, .flag .z, .flag .y, .flag .h, .flag .x, .flag .pv, .flag .c]
      (s.setResult (Machine.daa s.regs.a s.flags)) (t.setResult (Machine.daa t.regs.a t.flags)) := by
  have hflags := daa_congr s.regs.a (h.carry (by decide)) (h.flag (k := .h) (by decide)) (h.flag (k := .n) (by decide))
  rw [h.a (.head _)]
  exact (h.start.setA hflags.1).setFlags [.s, .z, .y, .h, .x, .pv, .c] hflags.2

/-- CCF and SCF: H and C as given, N clear, Y and X drawn (R268, R269). -/
theorem drawCarry (h : Alike [] s t) {i i' c c' : Bool} (hi : i' = i) (hc : c' = c) :
    Alike carryFlagLocs (s.drawCarry i c) (t.drawCarry i' c') := by
  have hfree : t.freeByte = s.freeByte := h.field State.freeByte fun _ _ => rfl
  refine (h.setFlags [.h, .n, .c, .y, .x] ?_).drew
  rw [hfree, hi, hc]
  exact named_of (F := [.h, .n, .c, .y, .x])
    (fun old => ({ old with h := i, n := false, c := c } : FlagBits).drawYX s.freeByte) _ _ fun _ _ => rfl

/-- ADC and SBC of two words name all eight flags (R301, R302). -/
theorem setHlResult (h : Alike [] s t) {r r' : Word × FlagBits} (hr : r' = r) :
    Alike (hlLocs ++ flagLocs) (s.setHlResult r) (t.setHlResult r') := by
  subst hr
  exact (h.setHl rfl).setFlags [.s, .z, .y, .h, .x, .pv, .n, .c] rfl

/-- ADD of two words looks at no flag, and leaves S, Z and P/V (R300, R303). -/
theorem addHl (h : Alike [] s t) {w w' : Word} (hl : t.hl = s.hl) (hw : w' = w) :
    Alike (hlLocs ++ carryFlagLocs) (s.setHlResult (add16 s.hl w s.flags)) (t.setHlResult (add16 t.hl w' t.flags)) := by
  rw [hl, hw]
  exact (h.setHl rfl).setFlags [.h, .n, .c, .y, .x] (named_of (fun old => (add16 s.hl w old).2) _ _ fun _ _ => rfl)

theorem addIx (h : Alike [] s t) {w w' : Word} (hx : t.ix = s.ix) (hw : w' = w) :
    Alike (.ix :: carryFlagLocs) (s.addIndex .ix w) (t.addIndex .ix w') := by
  have hx' : t.index .ix = s.index .ix := hx
  rw [State.addIndex, State.addIndex, hx', hw]
  exact (h.setIx rfl).setFlags [.h, .n, .c, .y, .x]
    (named_of (fun old => (add16 (s.index .ix) w old).2) _ _ fun _ _ => rfl)

theorem addIy (h : Alike [] s t) {w w' : Word} (hy : t.iy = s.iy) (hw : w' = w) :
    Alike (.iy :: carryFlagLocs) (s.addIndex .iy w) (t.addIndex .iy w') := by
  have hy' : t.index .iy = s.index .iy := hy
  rw [State.addIndex, State.addIndex, hy', hw]
  exact (h.setIy rfl).setFlags [.h, .n, .c, .y, .x]
    (named_of (fun old => (add16 (s.index .iy) w old).2) _ _ fun _ _ => rfl)

/-- LD A,I and LD A,R (R214, R215). -/
theorem loadIr (h : Alike [] s t) {v v' : Byte} (hv : v' = v) :
    Alike (.reg .a :: flagLocsButC) (s.loadIr v) (t.loadIr v') := by
  have hiff : t.iff2 = s.iff2 := h.field State.iff2 fun _ _ => rfl
  refine (h.setA hv).setFlags [.s, .z, .y, .h, .x, .pv, .n] ?_
  rw [hv, hiff]
  exact named_of (loadIrFlags · v s.iff2) _ _ fun _ _ => rfl

/-! ### Rotates, shifts and bits -/

theorem rotateA (h : Alike [] s t) {r r' : Shifted} (hr : r' = r) :
    Alike (.reg .a :: carryFlagLocs) (s.rotateA r) (t.rotateA r') := by
  subst hr
  exact (h.setA rfl).setFlags [.h, .n, .c, .y, .x] (named_of (accShiftFlags · r') _ _ fun _ _ => rfl)

theorem shiftReg (h : Alike [] s t) (op : Byte → Bool → Shifted) (r : Reg8)
    (hop : op (t.reg8 r) t.flags.c = op (s.reg8 r) s.flags.c) :
    Alike (.reg r :: flagLocs) (s.shiftReg op r) (t.shiftReg op r) :=
  (h.setReg8 r (congrArg Prod.fst hop)).setFlags [.s, .z, .y, .h, .x, .pv, .n, .c] (by rw [hop])

theorem shiftByte (h : Alike [] s t) (op : Byte → Bool → Shifted) {a a' : Word} (ha : a' = a)
    (hop : op (s.readByte a) t.flags.c = op (s.readByte a) s.flags.c) :
    Alike flagLocs (s.shiftByte op a) (t.shiftByte op a') := by
  rw [← h.readByte ha] at hop
  refine (h.store ha (congrArg Prod.fst ?_)).setFlags [.s, .z, .y, .h, .x, .pv, .n, .c] ?_
  · rw [hop, h.readByte ha]
  · rw [hop, h.readByte ha]

theorem rotateDigit (h : Alike [] s t) (hhl : t.hl = s.hl) {v v' w w' : Byte} (hv : v' = v) (hw : w' = w) :
    Alike (.reg .a :: flagLocsButC) (s.rotateDigit v w) (t.rotateDigit v' w') := by
  subst hw
  exact ((h.store hhl hv).setA rfl).setFlags [.s, .z, .y, .h, .x, .pv, .n] (named_of (byteFlags · w') _ _ fun _ _ => rfl)

/-- BIT of a byte with Y and X as given keeps C (R350 to R352). -/
theorem bitFlagsOf (h : Alike [] s t) (n : Nat) {v v' : Byte} {y y' x x' : Bool} (hv : v' = v) (hy : y' = y)
    (hx : x' = x) :
    Alike flagLocsButC (s.setFlags (bitFlags s.flags n v y x)) (t.setFlags (bitFlags t.flags n v' y' x')) := by
  rw [hv, hy, hx]
  exact h.setFlags [.s, .z, .y, .h, .x, .pv, .n] (named_of (bitFlags · n v y x) _ _ fun _ _ => rfl)

theorem bitAt (h : Alike [] s t) (n : Nat) {a a' : Word} (ha : a' = a) :
    Alike flagLocsButC (s.bitAt n a) (t.bitAt n a') :=
  h.bitFlagsOf n (h.readByte ha) (by rw [ha]) (by rw [ha])

theorem setBitAt (h : Alike L s t) (n : Nat) {a a' : Word} (ha : a' = a) : Alike L (s.setBitAt n a) (t.setBitAt n a') :=
  h.store ha (congrArg (· ||| bitMask n) (h.readByte ha))

theorem resBitAt (h : Alike L s t) (n : Nat) {a a' : Word} (ha : a' = a) : Alike L (s.resBitAt n a) (t.resBitAt n a') :=
  h.store ha (congrArg (· &&& ~~~bitMask n) (h.readByte ha))

/-! ### Calls and returns -/

theorem callTo (h : Alike [] s t) (hs : t.sp = s.sp) (w : Word) : Alike [.sp] (s.callTo w) (t.callTo w) :=
  (h.push16 hs (h.field State.pc fun _ _ => rfl)).jump rfl

theorem returnTo (h : Alike [.sp] s t) : Alike [.sp] s.returnTo t.returnTo :=
  (h.start.popped (h.sp (.head _))).jump (h.stackTop (.head _))

theorem returnFromInterrupt (h : Alike [.sp] s t) : Alike [.sp] s.returnFromInterrupt t.returnFromInterrupt :=
  h.returnTo.outside (fun b x => { x with iff1 := b }) (h.field State.iff2 fun _ _ => rfl) fun _ _ _ => rfl

theorem popIx (h : Alike [.sp] s t) :
    Alike [.sp, .ix] (s.popped.setIndex .ix s.stackTop) (t.popped.setIndex .ix t.stackTop) :=
  ((h.start.popped (h.sp (.head _))).setIx (h.stackTop (.head _))).mono (by decide)

theorem popIy (h : Alike [.sp] s t) :
    Alike [.sp, .iy] (s.popped.setIndex .iy s.stackTop) (t.popped.setIndex .iy t.stackTop) :=
  ((h.start.popped (h.sp (.head _))).setIy (h.stackTop (.head _))).mono (by decide)

/-! ### Ports and block instructions -/

theorem inReg (h : Alike [] s t) (r : Reg8) {p p' : Word} (hp : p' = p) :
    Alike (.reg r :: flagLocsButC) (((s.ioRead p).setReg8 r s.ioByte).setFlags (byteFlags s.flags s.ioByte))
      (((t.ioRead p').setReg8 r t.ioByte).setFlags (byteFlags t.flags t.ioByte)) := by
  have hbyte : t.ioByte = s.ioByte := h.field State.ioByte fun _ _ => rfl
  rw [hbyte]
  exact ((h.ioRead hp).setReg8 r rfl).setFlags [.s, .z, .y, .h, .x, .pv, .n]
    (named_of (byteFlags · s.ioByte) _ _ fun _ _ => rfl)


/-- A repeating iteration draws Y and X and keeps the other flags (R378, R379). -/
theorem rewind (h : Alike L s t) {F : List FlagName} (hF : ∀ k ∈ F, k ≠ .y → k ≠ .x → .flag k ∈ L) :
    Alike (L.filter Loc.isRegister ++ F.map Loc.flag) s.rewind t.rewind := by
  have hfree : t.freeByte = s.freeByte := h.field State.freeByte fun _ _ => rfl
  refine ((h.jump (congrArg (· - 2) (h.field State.pc fun _ _ => rfl))).setFlags F ?_).drew
  refine List.map_congr_left fun k hk => ?_
  rw [hfree]
  cases k with
  | y | x => rfl
  | s | z | h | pv | n | c => exact h.flag (hF _ hk (by simp) (by simp))

theorem blockLoad (h : Alike [.reg .h, .reg .l, .reg .d, .reg .e, .reg .b, .reg .c, .reg .a] s t) (step : Word) :
    Alike [.reg .h, .reg .l, .reg .d, .reg .e, .reg .b, .reg .c, .flag .h, .flag .n, .flag .pv, .flag .y, .flag .x]
      (s.blockLoad step) (t.blockLoad step) := by
  have hhl := h.hl (by decide)
  have hde := h.de (by decide)
  have hbc := h.bc (by decide)
  have hmove := h.readByte hhl
  have hstored := h.start.store hde hmove
  have hstepped := ((hstored.setHl (congrArg (· + step) hhl)).setDe (congrArg (· + step) hde)).setBc (congrArg (· - 1) hbc)
  refine (hstepped.setFlags [.h, .n, .pv, .y, .x] ?_).mono (by decide)
  rw [h.a (by decide), hmove, hbc]
  exact named_of (blockLoadFlags · s.regs.a (s.readByte s.hl) (s.bc - 1)) _ _ fun _ _ => rfl

theorem blockCompare (h : Alike [.reg .h, .reg .l, .reg .b, .reg .c, .reg .a] s t) (step : Word) :
    Alike (hlLocs ++ bcLocs ++ flagLocsButC) (s.blockCompare step) (t.blockCompare step) := by
  have hhl := h.hl (by decide)
  have hbc := h.bc (by decide)
  have hstepped := (h.start.setHl (congrArg (· + step) hhl)).setBc (congrArg (· - 1) hbc)
  refine (hstepped.setFlags [.s, .z, .y, .h, .x, .pv, .n] ?_).mono (by decide)
  rw [h.a (by decide), h.readByte hhl, hbc]
  exact named_of (blockCompareFlags · s.regs.a (s.readByte s.hl) (s.bc - 1)) _ _ fun _ _ => rfl

theorem blockIn (h : Alike (hlLocs ++ bcLocs) s t) (step : Word) :
    Alike (.reg .b :: hlLocs ++ flagLocs) (s.blockIn step) (t.blockIn step) := by
  have hhl := h.hl (by decide)
  have hb := h.b (by decide)
  have hdraws : t.draws = s.draws := h.field State.draws fun _ _ => rfl
  have hstored := (h.start.ioRead (h.bc (by decide))).store hhl (h.field State.ioByte fun _ _ => rfl)
  have hstepped := (hstored.setB (congrArg (· - 1) hb)).setHl (congrArg (· + step) hhl)
  refine (hstepped.setFlags [.s, .z, .y, .h, .x, .pv, .n, .c] ?_).drew.mono (by decide)
  rw [hb, hdraws]

theorem blockOut (h : Alike (hlLocs ++ bcLocs) s t) (step : Word) :
    Alike (.reg .b :: hlLocs ++ flagLocs) (s.blockOut step) (t.blockOut step) := by
  have hhl := h.hl (by decide)
  have hb := h.b (by decide)
  have hc : t.regs.c = s.regs.c := h.reg8 (r := .c) (by decide)
  have hfree : t.freeByte = s.freeByte := h.field State.freeByte fun _ _ => rfl
  have hport : join (t.regs.b - 1) t.regs.c = join (s.regs.b - 1) s.regs.c := by rw [hb, hc]
  have hsent := (h.start.setB (congrArg (· - 1) hb)).ioWrite hport (h.readByte hhl)
  refine ((hsent.setHl (congrArg (· + step) hhl)).setFlags [.s, .z, .y, .h, .x, .pv, .n, .c] ?_).drew.mono (by decide)
  rw [hb, hfree]

theorem finishRepeat {c c' : Bool} (hc : c' = c) (h : Alike L s t) {F : List FlagName}
    (hF : ∀ k ∈ F, k ≠ .y → k ≠ .x → .flag k ∈ L) (hL : L.filter Loc.isRegister ++ F.map Loc.flag = L) :
    EndAlike L (Machine.finishRepeat c s) (Machine.finishRepeat c' t) := by
  subst hc
  have hr := h.rewind hF
  rw [hL] at hr
  exact ⟨_, _, _, rfl, rfl, hr.branch c' h⟩

theorem finishIoRepeat {c c' : Bool} (hc : c' = c) (h : Alike L s t) :
    EndAlike L (Machine.finishIoRepeat c s) (Machine.finishIoRepeat c' t) := by
  subst hc
  exact ⟨_, _, _, rfl, rfl, (h.jump (congrArg (· - 2) (h.field State.pc fun _ _ => rfl))).branch c' h⟩

theorem blockLoadRepeat (h : Alike [.reg .h, .reg .l, .reg .d, .reg .e, .reg .b, .reg .c, .reg .a] s t) (step : Word) :
    EndAlike [.reg .h, .reg .l, .reg .d, .reg .e, .reg .b, .reg .c, .flag .h, .flag .n, .flag .pv, .flag .y, .flag .x]
      (Machine.finishRepeat (s.bc - 1 != 0) (s.blockLoad step)) (Machine.finishRepeat (t.bc - 1 != 0) (t.blockLoad step)) :=
  (h.blockLoad step).finishRepeat (F := [.h, .n, .pv, .y, .x]) (by rw [h.bc (by decide)]) (by decide) rfl

theorem blockCompareRepeat (h : Alike [.reg .h, .reg .l, .reg .b, .reg .c, .reg .a] s t) (step : Word) :
    EndAlike (hlLocs ++ bcLocs ++ flagLocsButC)
      (Machine.finishRepeat (s.bc - 1 != 0 && s.regs.a - s.readByte s.hl != 0) (s.blockCompare step))
      (Machine.finishRepeat (t.bc - 1 != 0 && t.regs.a - t.readByte t.hl != 0) (t.blockCompare step)) := by
  have hhl := h.hl (by decide)
  refine (h.blockCompare step).finishRepeat (F := [.s, .z, .y, .h, .x, .pv, .n]) ?_ (by decide) rfl
  rw [h.bc (by decide), h.a (by decide), h.readByte hhl]

end

end Alike

end Sys2Proof

/-! PROOF. Every instruction but the exchanges ends alike from two states that agree on what it reads (R601): one line per
meaning, by the operations it is made of. -/

namespace Sys2Proof

open Sys2Proof.Machine

/-- An instruction that is no exchange ends alike from two states that agree on what it reads: it spends as many T-states,
agrees on what it writes, and leaves no other part but these registers different (R601). The cases with one meaning but for
their operands stand together. -/
theorem exec_alike (i : Instr) (hx : i.isExchange = false) {s t : State} (h : Alike (i.reads s) s t) :
    EndAlike (i.writes s) (exec i s) (exec i t) := by
  have h0 := h.start
  cases i with
  | exAfAf | exx | exDeHl => cases hx
  -- Loads
  | ldRegReg => exact (h0.setReg8 _ (h.reg8 (.head _))).finish _
  | ldRegN => exact (h0.setReg8 _ rfl).finish _
  | ldRegMemHl => exact (h0.setReg8 _ (h.readByte (h.hl (.refl _)))).finish _
  | ldRegMemIx => exact (h0.setReg8 _ (h.readByte (h.eaIx _ (.head _)))).finish _
  | ldRegMemIy => exact (h0.setReg8 _ (h.readByte (h.eaIy _ (.head _)))).finish _
  | ldAMemBc => exact (h0.setA (h.readByte (h.bc (.refl _)))).finish _
  | ldAMemDe => exact (h0.setA (h.readByte (h.de (.refl _)))).finish _
  | ldAMemNn => exact (h0.setA (h.readByte rfl)).finish _
  | ldMemHlReg => exact (h0.store (h.hl (List.subset_append_left ..)) (h.reg8 (.tail _ (.tail _ (.head _))))).finish _
  | ldMemIxReg => exact (h0.store (h.eaIx _ (.head _)) (h.reg8 (.tail _ (.head _)))).finish _
  | ldMemIyReg => exact (h0.store (h.eaIy _ (.head _)) (h.reg8 (.tail _ (.head _)))).finish _
  | ldMemHlN => exact (h0.store (h.hl (.refl _)) rfl).finish _
  | ldMemIxN => exact (h0.store (h.eaIx _ (.head _)) rfl).finish _
  | ldMemIyN => exact (h0.store (h.eaIy _ (.head _)) rfl).finish _
  | ldMemBcA => exact (h0.store (h.bc (List.subset_append_left ..)) (h.a (.tail _ (.tail _ (.head _))))).finish _
  | ldMemDeA => exact (h0.store (h.de (List.subset_append_left ..)) (h.a (.tail _ (.tail _ (.head _))))).finish _
  | ldMemNnA => exact (h0.store rfl (h.a (.head _))).finish _
  | ldAI => exact (h0.loadIr (h.field State.i fun _ _ => rfl)).finish _
  | ldAR => exact (h0.loadIr (h.field State.r fun _ _ => rfl)).finish _
  | ldIA => exact (h0.outside (fun v x => { x with i := v }) (h.a (.head _)) fun _ _ _ => rfl).finish _
  | ldRA => exact (h0.outside (fun v x => { x with r := v }) (h.a (.head _)) fun _ _ _ => rfl).finish _
  | ldPairNn => exact (h0.setPair _ rfl).finish _
  | ldPairMemNn => exact (h0.setPair _ (h.readWord _)).finish _
  | ldHlMemNn => exact (h0.setPair .hl (h.readWord _)).finish _
  | ldIxNn => exact (h0.setIx rfl).finish _
  | ldIyNn => exact (h0.setIy rfl).finish _
  | ldIxMemNn => exact (h0.setIx (h.readWord _)).finish _
  | ldIyMemNn => exact (h0.setIy (h.readWord _)).finish _
  | ldMemNnHl => exact (h0.storeWord rfl (h.hl (.refl _))).finish _
  | ldMemNnPair => exact (h0.storeWord rfl (h.pair (.refl _))).finish _
  | ldMemNnIx => exact (h0.storeWord rfl (h.ix (.head _))).finish _
  | ldMemNnIy => exact (h0.storeWord rfl (h.iy (.head _))).finish _
  | ldSpHl => exact (h0.setSp (h.hl (.refl _))).finish _
  | ldSpIx => exact (h0.setSp (h.ix (.head _))).finish _
  | ldSpIy => exact (h0.setSp (h.iy (.head _))).finish _
  -- 8-bit arithmetic
  | addReg | subReg | andReg | xorReg | orReg =>
    exact (h0.setResult (by rw [h.a (.head _), h.reg8 (.tail _ (.head _))])).finish _
  | addMemHl | subMemHl | andMemHl | xorMemHl | orMemHl =>
    exact (h0.setResult (by rw [h.a (.head _), h.readByte (h.hl (List.subset_append_right ..))])).finish _
  | addImm | subImm | andImm | xorImm | orImm | neg => exact (h0.setResult (by rw [h.a (.head _)])).finish _
  | addMemIx | subMemIx | andMemIx | xorMemIx | orMemIx =>
    exact (h0.setResult (by rw [h.a (.head _), h.readByte (h.eaIx _ (.tail _ (.head _)))])).finish _
  | addMemIy | subMemIy | andMemIy | xorMemIy | orMemIy =>
    exact (h0.setResult (by rw [h.a (.head _), h.readByte (h.eaIy _ (.tail _ (.head _)))])).finish _
  | adcReg | sbcReg =>
    exact (h0.setResult
      (by rw [h.a (.head _), h.carry (.tail _ (.head _)), h.reg8 (.tail _ (.tail _ (.head _)))])).finish _
  | adcMemHl | sbcMemHl =>
    exact (h0.setResult
      (by rw [h.a (.head _), h.carry (.tail _ (.head _)), h.readByte (h.hl (List.subset_append_right ..))])).finish _
  | adcImm | sbcImm => exact (h0.setResult (by rw [h.a (.head _), h.carry (.tail _ (.head _))])).finish _
  | adcMemIx | sbcMemIx =>
    exact (h0.setResult (by
      rw [h.a (.head _), h.carry (.tail _ (.head _)), h.readByte (h.eaIx _ (.tail _ (.tail _ (.head _))))])).finish _
  | adcMemIy | sbcMemIy =>
    exact (h0.setResult (by
      rw [h.a (.head _), h.carry (.tail _ (.head _)), h.readByte (h.eaIy _ (.tail _ (.tail _ (.head _))))])).finish _
  | cpReg => exact (h0.accCp (h.a (.head _)) (h.reg8 (.tail _ (.head _)))).finish _
  | cpMemHl => exact (h0.accCp (h.a (.head _)) (h.readByte (h.hl (List.subset_append_right ..)))).finish _
  | cpImm => exact (h0.accCp (h.a (.head _)) rfl).finish _
  | cpMemIx => exact (h0.accCp (h.a (.head _)) (h.readByte (h.eaIx _ (.tail _ (.head _))))).finish _
  | cpMemIy => exact (h0.accCp (h.a (.head _)) (h.readByte (h.eaIy _ (.tail _ (.head _))))).finish _
  | incReg => exact (h0.incReg (h.reg8 (.head _))).finish _
  | decReg => exact (h0.decReg (h.reg8 (.head _))).finish _
  | incMemHl => exact (h0.incByte (h.hl (.refl _))).finish _
  | incMemIx => exact (h0.incByte (h.eaIx _ (.head _))).finish _
  | incMemIy => exact (h0.incByte (h.eaIy _ (.head _))).finish _
  | decMemHl => exact (h0.decByte (h.hl (.refl _))).finish _
  | decMemIx => exact (h0.decByte (h.eaIx _ (.head _))).finish _
  | decMemIy => exact (h0.decByte (h.eaIy _ (.head _))).finish _
  | daa => exact h.daa.finish _
  | cpl => exact (h0.cpl (h.a (.head _))).finish _
  | ccf =>
    have hc := h.carry (.head _)
    exact (h0.drawCarry hc (congrArg (!·) hc)).finish _
  | scf => exact (h0.drawCarry rfl rfl).finish _
  -- 16-bit arithmetic
  | addHlPair => exact (h0.addHl (h.hl (List.subset_append_left ..)) (h.pair (List.subset_append_right ..))).finish _
  | adcHlPair | sbcHlPair =>
    have hhl := h.hl (List.Subset.trans (List.subset_cons_self ..) (List.subset_append_left ..))
    exact (h0.setHlResult (by rw [hhl, h.pair (List.subset_append_right ..), h.carry (.head _)])).finish _
  | addIxPair => exact (h0.addIx (h.ix (.head _)) (h.ixPair (List.subset_cons_self ..))).finish _
  | addIyPair => exact (h0.addIy (h.iy (.head _)) (h.iyPair (List.subset_cons_self ..))).finish _
  | incPair => exact (h0.setPair _ (congrArg (· + 1) (h.pair (.refl _)))).finish _
  | decPair => exact (h0.setPair _ (congrArg (· - 1) (h.pair (.refl _)))).finish _
  | incIx => exact (h0.setIx (congrArg (· + 1) (h.ix (.head _)))).finish _
  | incIy => exact (h0.setIy (congrArg (· + 1) (h.iy (.head _)))).finish _
  | decIx => exact (h0.setIx (congrArg (· - 1) (h.ix (.head _)))).finish _
  | decIy => exact (h0.setIy (congrArg (· - 1) (h.iy (.head _)))).finish _
  -- Rotates, shifts and bits
  | rlca => exact (h0.rotateA (congrArg (rlc · _) (h.a (.head _)))).finish _
  | rrca => exact (h0.rotateA (congrArg (rrc · _) (h.a (.head _)))).finish _
  | rla | rra => exact (h0.rotateA (by rw [h.a (.head _), h.carry (.tail _ (.head _))])).finish _
  | rlcReg | rrcReg | slaReg | sraReg | srlReg =>
    exact (h0.shiftReg _ _ (by rw [h.reg8 (.head _)]; rfl)).finish _
  | rlReg | rrReg => exact (h0.shiftReg _ _ (by rw [h.reg8 (.head _), h.carry (.tail _ (.head _))])).finish _
  | rlcMemHl | rrcMemHl | slaMemHl | sraMemHl | srlMemHl => exact (h0.shiftByte _ (h.hl (.refl _)) rfl).finish _
  | rlcMemIx | rrcMemIx | slaMemIx | sraMemIx | srlMemIx => exact (h0.shiftByte _ (h.eaIx _ (.head _)) rfl).finish _
  | rlcMemIy | rrcMemIy | slaMemIy | sraMemIy | srlMemIy => exact (h0.shiftByte _ (h.eaIy _ (.head _)) rfl).finish _
  | rlMemHl | rrMemHl =>
    exact (h0.shiftByte _ (h.hl (List.subset_cons_self ..)) (by rw [h.carry (.head _)])).finish _
  | rlMemIx | rrMemIx => exact (h0.shiftByte _ (h.eaIx _ (.head _)) (by rw [h.carry (.tail _ (.head _))])).finish _
  | rlMemIy | rrMemIy => exact (h0.shiftByte _ (h.eaIy _ (.head _)) (by rw [h.carry (.tail _ (.head _))])).finish _
  | rld | rrd =>
    have hhl := h.hl (List.subset_append_left ..)
    have ha := h.a (.tail _ (.tail _ (.head _)))
    exact (h0.rotateDigit hhl (by rw [h.readByte hhl, ha]) (by rw [h.readByte hhl, ha])).finish _
  | bitReg =>
    have hr := h.reg8 (.head _)
    exact (h0.bitFlagsOf _ hr (by rw [hr]) (by rw [hr])).finish _
  | bitMemHl =>
    have hfree : t.freeByte = s.freeByte := h.field State.freeByte fun _ _ => rfl
    exact (h0.bitFlagsOf _ (h.readByte (h.hl (.refl _))) (by rw [hfree]) (by rw [hfree])).drew.finish _
  | bitMemIx => exact (h0.bitAt _ (h.eaIx _ (.head _))).finish _
  | bitMemIy => exact (h0.bitAt _ (h.eaIy _ (.head _))).finish _
  | setReg => exact (h0.setReg8 _ (congrArg (· ||| bitMask _) (h.reg8 (.head _)))).finish _
  | resReg => exact (h0.setReg8 _ (congrArg (· &&& ~~~bitMask _) (h.reg8 (.head _)))).finish _
  | setMemHl => exact (h0.setBitAt _ (h.hl (.refl _))).finish _
  | setMemIx => exact (h0.setBitAt _ (h.eaIx _ (.head _))).finish _
  | setMemIy => exact (h0.setBitAt _ (h.eaIy _ (.head _))).finish _
  | resMemHl => exact (h0.resBitAt _ (h.hl (.refl _))).finish _
  | resMemIx => exact (h0.resBitAt _ (h.eaIx _ (.head _))).finish _
  | resMemIy => exact (h0.resBitAt _ (h.eaIy _ (.head _))).finish _
  -- Block instructions
  | ldi | ldd => exact (h.blockLoad _).finish _
  | ldir | lddr => exact h.blockLoadRepeat _
  | cpi | cpd => exact (h.blockCompare _).finish _
  | cpir | cpdr => exact h.blockCompareRepeat _
  | ini | ind => exact (h.blockIn _).finish _
  | outi | outd => exact (h.blockOut _).finish _
  | inir | indr => exact (h.blockIn _).finishIoRepeat (by rw [h.b (.tail _ (.tail _ (.head _)))])
  | otir | otdr => exact (h.blockOut _).finishIoRepeat (by rw [h.b (.tail _ (.tail _ (.head _)))])
  -- Jumps, calls and returns
  | jp => exact (h0.jump rfl).finish _
  | jr => exact (h0.jump (h.relative _)).finish _
  | jpHl => exact (h0.jump (h.hl (.refl _))).finish _
  | jpIx => exact (h0.jump (h.ix (.head _))).finish _
  | jpIy => exact (h0.jump (h.iy (.head _))).finish _
  | jpCond => exact (h0.jump rfl).finishIf (h.cond (.head _)) _ _ h0
  | jrCond => exact (h0.jump (h.relative _)).finishIf (h.jrCond (.head _)) _ _ h0
  | djnz =>
    have hb := congrArg (· - 1) (h.b (.head _))
    have hcounted := h0.setB hb
    exact (hcounted.jump (h.relative _)).finishIf (congrArg (· != 0) hb) _ _ hcounted
  | call | rst => exact (h0.callTo (h.sp (.head _)) _).finish _
  | ret => exact h.returnTo.finish _
  | retn | reti => exact h.returnFromInterrupt.finish _
  | callCond cc nn =>
    cases hc : s.cond cc with
    | true =>
      have hreads : (Instr.callCond cc nn).reads s = [cc.loc, .sp] := if_pos hc
      have hwrites : (Instr.callCond cc nn).writes s = [.sp] := if_pos hc
      rw [hreads] at h
      rw [hwrites]
      exact (h0.callTo (h.sp (.tail _ (.head _))) nn).finishTaken hc ((h.cond (.head _)).trans hc) _ _ s t
    | false =>
      have hreads : (Instr.callCond cc nn).reads s = [cc.loc] := if_neg (by simp [hc])
      have hwrites : (Instr.callCond cc nn).writes s = [] := if_neg (by simp [hc])
      rw [hreads] at h
      rw [hwrites]
      exact h0.finishNotTaken hc ((h.cond (.head _)).trans hc) _ _ (s.callTo nn) (t.callTo nn)
  | retCond cc =>
    cases hc : s.cond cc with
    | true =>
      have hreads : (Instr.retCond cc).reads s = [cc.loc, .sp] := if_pos hc
      have hwrites : (Instr.retCond cc).writes s = [.sp] := if_pos hc
      rw [hreads] at h
      rw [hwrites]
      have hsp : Alike [.sp] s t := h.mono (by simp)
      exact hsp.returnTo.finishTaken hc ((h.cond (.head _)).trans hc) _ _ s t
    | false =>
      have hreads : (Instr.retCond cc).reads s = [cc.loc] := if_neg (by simp [hc])
      have hwrites : (Instr.retCond cc).writes s = [] := if_neg (by simp [hc])
      rw [hreads] at h
      rw [hwrites]
      exact h0.finishNotTaken hc ((h.cond (.head _)).trans hc) _ _ s.returnTo t.returnTo
  -- Stack
  | pushPair => exact (h0.push16 (h.sp (.head _)) (h.stackPair (List.subset_cons_self ..))).finish _
  | pushIx => exact (h0.push16 (h.sp (.head _)) (h.ix (.tail _ (.head _)))).finish _
  | pushIy => exact (h0.push16 (h.sp (.head _)) (h.iy (.tail _ (.head _)))).finish _
  | popPair => exact ((h0.popped (h.sp (.head _))).setStackPair _ (h.stackTop (.head _))).finish _
  | popIx => exact (h.popIx).finish _
  | popIy => exact (h.popIy).finish _
  | exMemSpHl =>
    have hsp := h.sp (.head _)
    exact ((h0.storeWord hsp (h.hl (List.subset_cons_self ..))).setHl (h.stackTop (.head _))).finish _
  | exMemSpIx => exact ((h0.storeWord (h.sp (.head _)) (h.ix (.tail _ (.head _)))).setIx (h.stackTop (.head _))).finish _
  | exMemSpIy => exact ((h0.storeWord (h.sp (.head _)) (h.iy (.tail _ (.head _)))).setIy (h.stackTop (.head _))).finish _
  -- CPU control
  | nop => exact h0.finish _
  | halt => exact (h0.outside (fun b x => { x with halted := b }) rfl fun _ _ _ => rfl).finish _
  | di => exact (h0.outside (fun b x => { x with iff1 := b, iff2 := b }) rfl fun _ _ _ => rfl).finish _
  | ei => exact (h0.outside (fun b x => { x with iff1 := b, iff2 := b, eiShadow := b }) rfl fun _ _ _ => rfl).finish _
  | im0 | im1 | im2 => exact (h0.outside (fun m x => { x with im := m }) rfl fun _ _ _ => rfl).finish _
  -- Input and output
  | inAImm => exact ((h0.ioRead (h.portA (.head _))).setA (h.field State.ioByte fun _ _ => rfl)).finish _
  | inRegC => exact (h0.inReg _ (h.bc (.refl _))).finish _
  | outImmA => exact (h0.ioWrite (h.portA (.head _)) (h.a (.head _))).finish _
  | outCReg => exact (h0.ioWrite (h.bc (List.subset_append_left ..)) (h.reg8 (.tail _ (.tail _ (.head _))))).finish _

end Sys2Proof

/-! PROOF. Under UNWRITTEN_READ = fault no turn of Run depends on a register that holds no value (O58): agreement but for what
holds no value is kept by every instruction, by the acceptance of an interrupt, by the CPU step and by the turn. -/

namespace Sys2Proof

open Sys2Proof.Machine

/-! ## Agreement but for what holds no value -/

/-- Two states agree but for what holds no value under these marks, which need not be their own. -/
structure Agrees (m : Marks) (s t : State) : Prop where
  rest : s.withFiles t.files = t
  locs : ∀ l, l ∉ m.unwritten → l.same s t
  shadow : ∀ l, l ∉ m.shadow → l.sameFile s.shadow t.shadow

/-- IX, IY and SP have no shadow. -/
theorem sameFile_of_notMem_shadowLocs {l : Loc} (h : l ∉ shadowLocs) (f g : RegFile) : l.sameFile f g := by
  cases l with
  | reg r => exact absurd (by cases r <;> decide) h
  | flag k => exact absurd (by cases k <;> decide) h
  | _ => trivial

theorem agreeBut_iff (s t : State) : AgreeBut s t ↔ Agrees s.marks s t := by
  constructor
  · rintro ⟨hlocs, hshadow, hparts⟩
    refine ⟨?_, hlocs, hshadow⟩
    have e := fun p => hparts p
    cases t
    simp only [State.withFiles, State.files, State.mk.injEq, true_and]
    exact ⟨(e .pc (by decide)).symm, (e .iReg (by decide)).symm, (e .rReg (by decide)).symm, (e .iff1 (by decide)).symm,
      (e .iff2 (by decide)).symm, (e .im (by decide)).symm, (e .halted (by decide)).symm, (e .eiShadow (by decide)).symm,
      (e .nmiPending (by decide)).symm, (e .cycles (by decide)).symm, (e .marks (by decide)).symm,
      (e .romBanks (by decide)).symm, (e .slots (by decide)).symm, (e .memory (by decide)).1.symm,
      (e .cart (by decide)).symm, (e .powered (by decide)).symm, (e .fault (by decide)).symm, (e .diag (by decide)).symm,
      (e .frameAcc (by decide)).symm, (e .callback (by decide)).symm, (e .displayBuffer (by decide)).symm,
      (e .runState (by decide)).symm, (e .intLine (by decide)).symm, (e .busByte (by decide)).symm,
      (e .ioAnswers (by decide)).symm, (e .callbackOff (by decide)).symm, (e .asyncOff (by decide)).symm,
      (e .events (by decide)).symm, (e .draws (by decide)).symm⟩
  · rintro ⟨hrest, hlocs, hshadow⟩
    refine ⟨hlocs, hshadow, fun p hp => ?_⟩
    rw [← hrest]
    cases p with
    | reg r => cases r <;> simp at hp
    | f | shadow | ix | iy | sp => simp at hp
    | memory => exact same_memory rfl rfl rfl rfl
    | _ => rfl

theorem Loc.same_trans {l : Loc} {s t u : State} (h : l.same s t) (h' : l.same t u) : l.same s u := by
  cases l <;> exact Eq.trans h' h

theorem Loc.same_symm {l : Loc} {s t : State} (h : l.same s t) : l.same t s := by
  cases l <;> exact Eq.symm h

namespace Agrees

variable {m : Marks} {s t : State}

/-- What holds a value is the same on both sides. -/
theorem alike (h : Agrees m s t) {L : List Loc} (hL : ∀ l ∈ L, l ∉ m.unwritten) : Alike L s t :=
  ⟨h.rest, fun l hl => h.locs l (hL l hl)⟩

theorem field (h : Agrees m s t) {α : Type} (f : State → α) (hf : ∀ x g, f (x.withFiles g) = f x) : f t = f s := by
  rw [← h.rest]
  exact hf s _

/-- An operation that neither reads nor writes what may hold no value. -/
theorem outside (h : Agrees m s t) (f : State → State) (hf : ∀ x g, f (x.withFiles g) = (f x).withFiles g) :
    Agrees m (f s) (f t) := by
  have hfiles : ∀ x : State, (f x).files = x.files := fun x => (congrArg State.files (hf x x.files)).symm ▸ rfl
  have hshadow : ∀ x : State, (f x).shadow = x.shadow := fun x => congrArg DrawnRegisters.shadow (hfiles x)
  refine ⟨?_, fun l hl => Loc.same_files (h.locs l hl) (hfiles s) (hfiles t), fun l hl => ?_⟩
  · rw [hfiles, ← hf, h.rest]
  · rw [hshadow, hshadow]
    exact h.shadow l hl

/-- The marks that are left name all that need not agree. -/
theorem of_alike {m' : Marks} {L : List Loc} {u v : State} (h : Agrees m s t) (hu : Alike L u v)
    (hL : ∀ l, l ∉ m'.unwritten → l ∈ L) (hm : ∀ l ∈ shadowLocs, l ∉ m'.shadow → l ∉ m.shadow)
    (hs : u.shadow = s.shadow) (ht : v.shadow = t.shadow) : Agrees m' u v := by
  refine ⟨hu.rest, fun l hl => hu.locs l (hL l hl), fun l hl => ?_⟩
  by_cases hin : l ∈ shadowLocs
  · rw [hs, ht]
    exact h.shadow l (hm l hin hl)
  · exact sameFile_of_notMem_shadowLocs hin _ _

end Agrees

/-! ## Instructions -/

/-- What an instruction reads and writes depends on nothing but the flag a conditional CALL or RET tests, which it reads. -/
theorem writes_congr {i : Instr} {s t : State} (h : Alike (i.reads s) s t) : i.writes t = i.writes s := by
  cases i with
  | retCond cc | callCond cc =>
    have hc : t.cond cc = s.cond cc := h.cond (by simp only [Instr.reads]; split <;> exact .head _)
    simp only [Instr.writes, hc]
  | _ => rfl

theorem exec_agrees_of_not_exchange {i : Instr} (hx : i.isExchange = false) {m : Marks} {s t : State} (h : Agrees m s t)
    (hreads : ∀ l ∈ i.reads s, l ∉ m.unwritten) :
    ∃ u v, exec i s = .next u ∧ exec i t = .next v ∧ Agrees (m.after i s) u v := by
  have halike := h.alike hreads
  obtain ⟨n, u, v, hu, hv, hend⟩ := exec_alike i hx halike
  have hend' : Alike (i.writes s) (u.spend n) (v.spend n) := hend.outside (fun n x => x.spend n) rfl fun _ _ _ => rfl
  have hshadow : ∀ {x y : State}, exec i x = .next y → y.shadow = x.shadow := fun he =>
    exec_same he (p := .shadow) (by decide) (decide_eq_false fun hi => by
      rcases hi with rfl | rfl <;> cases hx)
  refine ⟨_, _, hu, hv, ?_⟩
  rw [after_eq_written m s hx]
  refine ⟨hend'.rest, fun l hl => ?_, fun l hl => ?_⟩
  · by_cases hw : l ∈ i.writes s
    · exact hend'.locs l hw
    · have hl' : l ∉ m.unwritten := fun hm => hl ((Marks.mem_written ..).2 ⟨hm, hw⟩)
      have hs : l.same s (u.spend n) := exec_loc_same hu fun hn => hw ((mem_writes_iff s hx l).2 hn)
      have ht : l.same t (v.spend n) := exec_loc_same hv fun hn =>
        hw (writes_congr halike ▸ (mem_writes_iff t hx l).2 hn)
      exact Loc.same_trans (Loc.same_trans (Loc.same_symm hs) (h.locs l hl')) ht
  · rw [hshadow hu, hshadow hv]
    by_cases hin : l ∈ shadowLocs
    · exact h.shadow l fun hm => hl ((Marks.mem_written_shadow _ _ _ hin).2 hm)
    · exact sameFile_of_notMem_shadowLocs hin _ _

/-! ## Exchanges -/

/-- What an exchange of the two files at `locs` leaves: at these the shadow's values, elsewhere those before, and the reverse
in the shadow file. -/
theorem agrees_exchanged {m : Marks} {s t u v : State} {locs : List Loc} (h : Agrees m s t)
    (hrest : u.withFiles v.files = v)
    (hin : ∀ l ∈ locs, (l.sameFile s.shadow t.shadow → l.same u v) ∧ (l.same s t → l.sameFile u.shadow v.shadow))
    (hout : ∀ l, l ∉ locs → (l.same s t → l.same u v) ∧ (l.sameFile s.shadow t.shadow → l.sameFile u.shadow v.shadow)) :
    Agrees (m.exchanged locs) u v := by
  refine ⟨hrest, fun l hl => ?_, fun l hl => ?_⟩
  · rw [Marks.mem_exchanged] at hl
    by_cases hm : l ∈ locs
    · exact (hin l hm).1 (h.shadow l (by rwa [if_pos hm] at hl))
    · exact (hout l hm).1 (h.locs l (by rwa [if_neg hm] at hl))
  · by_cases hs : l ∈ shadowLocs
    · rw [Marks.mem_exchanged_shadow _ _ _ hs] at hl
      by_cases hm : l ∈ locs
      · exact (hin l hm).2 (h.locs l (by rwa [if_pos hm] at hl))
      · exact (hout l hm).2 (h.shadow l (by rwa [if_neg hm] at hl))
    · exact sameFile_of_notMem_shadowLocs hs _ _

theorem exec_exAfAf_agrees {m : Marks} {s t : State} (h : Agrees m s t) :
    ∃ u v, exec .exAfAf s = .next u ∧ exec .exAfAf t = .next v ∧ Agrees (m.after .exAfAf s) u v := by
  refine ⟨_, _, rfl, rfl, agrees_exchanged h ?_ (fun l hl => ?_) fun l hl => ?_⟩
  · rw [← h.rest]
    rfl
  · cases l with
    | reg r => cases r with
      | a => exact ⟨id, id⟩
      | _ => exact absurd hl (by decide)
    | flag k => exact ⟨id, id⟩
    | _ => exact absurd hl (by decide)
  · cases l with
    | reg r => cases r with
      | a => exact absurd (by decide) hl
      | _ => exact ⟨id, id⟩
    | flag k => exact absurd (by cases k <;> decide) hl
    | _ => exact ⟨id, id⟩

theorem exec_exx_agrees {m : Marks} {s t : State} (h : Agrees m s t) :
    ∃ u v, exec .exx s = .next u ∧ exec .exx t = .next v ∧ Agrees (m.after .exx s) u v := by
  refine ⟨_, _, rfl, rfl, agrees_exchanged h ?_ (fun l hl => ?_) fun l hl => ?_⟩
  · rw [← h.rest]
    rfl
  · cases l with
    | reg r => cases r with
      | a => exact absurd hl (by decide)
      | _ => exact ⟨id, id⟩
    | flag k => exact absurd hl (by cases k <;> decide)
    | _ => exact absurd hl (by decide)
  · cases l with
    | reg r => cases r with
      | a => exact ⟨id, id⟩
      | _ => exact absurd (by decide) hl
    | _ => exact ⟨id, id⟩

/-- After EX DE,HL each of the four holds what its partner held (R436). -/
theorem exDeHl_regs (s : State) :
    (((s.setDe s.hl).setHl s.de).spend 4).regs =
      { s.regs with d := s.regs.h, e := s.regs.l, h := s.regs.d, l := s.regs.e } := by
  simp [State.hl, State.de]

theorem exec_exDeHl_agrees {m : Marks} {s t : State} (h : Agrees m s t) :
    ∃ u v, exec .exDeHl s = .next u ∧ exec .exDeHl t = .next v ∧ Agrees (m.after .exDeHl s) u v := by
  refine ⟨_, _, rfl, rfl, ⟨?_, fun l hl => ?_, fun l hl => ?_⟩⟩
  · rw [← h.rest]
    rfl
  · have hswap := h.locs l.swapDeHl fun hm => hl ((Marks.mem_swappedDeHl m l).1.2 hm)
    cases l with
    | reg r =>
      show RegFile.get (State.regs _) r = RegFile.get (State.regs _) r
      rw [exDeHl_regs, exDeHl_regs]
      cases r
      all_goals exact hswap
    | _ => exact hswap
  · by_cases hs : l ∈ shadowLocs
    · exact h.shadow l fun hm => hl (((Marks.mem_swappedDeHl m l).2 hs).2 hm)
    · exact sameFile_of_notMem_shadowLocs hs _ _

/-- An instruction that reads nothing without a value leaves states that agree but for what then holds no value (R601). -/
theorem exec_agrees {i : Instr} {m : Marks} {s t : State} (h : Agrees m s t) (hreads : ∀ l ∈ i.reads s, l ∉ m.unwritten) :
    ∃ u v, exec i s = .next u ∧ exec i t = .next v ∧ Agrees (m.after i s) u v := by
  cases hx : i.isExchange with
  | false => exact exec_agrees_of_not_exchange hx h hreads
  | true =>
    rcases of_decide_eq_true hx with rfl | rfl | rfl
    · exact exec_exAfAf_agrees h
    · exact exec_exx_agrees h
    · exact exec_exDeHl_agrees h

/-! ## The acceptance of an interrupt -/

/-- An acceptance reads SP and writes it (R510, R601). -/
theorem enterInterrupt_agrees {m : Marks} {s t : State} (h : Agrees m s t) (hsp : .sp ∉ m.unwritten) (b : Bool)
    (vector vector' : State → Word) (n : Nat)
    (hvector : ∀ {u v : State}, Alike [] u v → vector' v = vector u) :
    Agrees (m.written [.sp]) (s.enterInterrupt b vector n) (t.enterInterrupt b vector' n) := by
  have hvalued := h.alike (L := allLocs.filter fun l => decide (l ∉ m.unwritten)) fun l hl => by
    simpa using (List.mem_filter.1 hl).2
  have hspSame : t.sp = s.sp := h.locs .sp hsp
  have hentered := hvalued.outside
    (fun b x => { x with halted := false, eiShadow := false, r := refresh x.r, iff1 := false, iff2 := b })
    (rfl : b = b) fun _ _ _ => rfl
  have hpushed := hentered.push16 hspSame (hvalued.field State.pc fun _ _ => rfl)
  have hdone := (hpushed.jump (hvector hpushed.start)).outside (fun n x => x.spend n) (rfl : n = n) fun _ _ _ => rfl
  refine h.of_alike hdone (fun l hl => ?_) (fun l hs hl hm => hl ((Marks.mem_written_shadow _ _ _ hs).2 hm)) rfl rfl
  rw [Marks.mem_written, not_and_not_right] at hl
  by_cases hm : l ∈ m.unwritten
  · obtain rfl := List.mem_singleton.1 (hl hm)
    exact .head _
  · exact .tail _ (List.mem_filter.2 ⟨mem_allLocs l, by simpa using hm⟩)

theorem acceptNmi_agrees {m : Marks} {s t : State} (h : Agrees m s t) (hsp : .sp ∉ m.unwritten) :
    Agrees (m.written [.sp]) s.acceptNmi t.acceptNmi := by
  have hlatch := h.outside (fun x => { x with nmiPending := false }) fun _ _ => rfl
  have hiff : t.iff2 = s.iff2 := h.field State.iff2 fun _ _ => rfl
  rw [State.acceptNmi, State.acceptNmi, hiff]
  exact enterInterrupt_agrees hlatch hsp _ _ _ _ fun _ => rfl

/-- An INT is accepted alike, or both times the bus byte is no restart (R512 to R514). -/
theorem acceptInt_agrees {m : Marks} {s t : State} (h : Agrees m s t)
    (hsp : ¬ (s.im = .im0 ∧ isRestart s.busByte = false) → .sp ∉ m.unwritten) :
    (∃ u v, s.acceptInt = .next u ∧ t.acceptInt = .next v ∧ Agrees (m.written [.sp]) u v) ∨
      ∃ f, s.acceptInt = .fault f ∧ t.acceptInt = .fault f := by
  have him : t.im = s.im := h.field State.im fun _ _ => rfl
  have hbus : t.busByte = s.busByte := h.field State.busByte fun _ _ => rfl
  have hpc : t.pc = s.pc := h.field State.pc fun _ _ => rfl
  have hi : t.i = s.i := h.field State.i fun _ _ => rfl
  have ack : ∀ {u v}, Agrees (m.written [.sp]) u v → Agrees (m.written [.sp]) u.intAck v.intAck := fun hu =>
    hu.outside State.intAck fun _ _ => rfl
  rcases acceptInt_cases s with ⟨hs, hr, he⟩ | ⟨hs, hr, he⟩ | ⟨hs, he⟩ | ⟨hs, he⟩
  · refine .inl ⟨_, _, he, ?_, ack (enterInterrupt_agrees h (hsp (by simp [hr])) _ _ _ _ fun _ => rfl)⟩
    rw [State.acceptInt, him, hs, hbus, if_pos hr]
  · refine .inr ⟨_, he, ?_⟩
    rw [State.acceptInt, him, hs, hbus, if_neg (by simp [hr]), hpc]
  · refine .inl ⟨_, _, he, ?_, ack (enterInterrupt_agrees h (hsp (by simp [hs])) _ _ _ _ fun _ => rfl)⟩
    rw [State.acceptInt, him, hs]
  · refine .inl ⟨_, _, he, ?_, ack (enterInterrupt_agrees h (hsp (by simp [hs])) _ _ _ _ fun hp => hp.readWord _)⟩
    rw [State.acceptInt, him, hs, hbus, hi]

/-! ## The CPU step -/

/-- The first register without a value that an instruction reads is the same on both sides: where the flag that a conditional
CALL or RET tests has a value, the two conditions agree, else that flag is the one. -/
theorem firstUnwritten_reads {m : Marks} {s t : State} (h : Agrees m s t) (i : Instr) :
    m.firstUnwritten (i.reads t) = m.firstUnwritten (i.reads s) := by
  cases i with
  | retCond cc | callCond cc =>
    by_cases hm : cc.loc ∈ m.unwritten
    · have found : ∀ x : State, m.firstUnwritten (if x.cond cc then [cc.loc, .sp] else [cc.loc]) = some cc.loc := by
        intro x
        split <;> simp [Marks.firstUnwritten, hm]
      exact (found t).trans (found s).symm
    · have hc : t.cond cc = s.cond cc := (h.alike (L := [cc.loc]) (by simpa using hm)).cond (.head _)
      simp only [Instr.reads, hc]
  | _ => rfl

/-- The model fault is the same on both sides (R601). -/
theorem unwrittenRead_congr {s t : State} (h : Agrees s.marks s t) : t.unwrittenRead .fault = s.unwrittenRead .fault := by
  have hinstr := fun i => firstUnwritten_reads h i
  obtain ⟨g, rfl⟩ : ∃ g, t = s.withFiles g := ⟨_, h.rest.symm⟩
  show s.marks.firstUnwritten (s.withFiles g).stepReads = s.marks.firstUnwritten s.stepReads
  have hd : (s.withFiles g).decodeAtPc = s.decodeAtPc := rfl
  have hi : (s.withFiles g).intCondition = s.intCondition := rfl
  simp only [State.stepReads, hd, hi]
  cases s.decodeAtPc with
  | error e => rfl
  | ok d =>
    show s.marks.firstUnwritten (if s.nmiPending then _ else if _ then _ else if s.halted then _ else _) = _
    split
    · rfl
    · split
      · rfl
      · split
        · rfl
        · exact hinstr d.instr

theorem stepReads_of_decode {s : State} {d : Decoded} (hd : s.decodeAtPc = .ok d) (hn : s.nmiPending = false)
    (hi : s.intCondition = false) (hh : s.halted = false) : s.stepReads = d.instr.reads s := by
  simp [State.stepReads, hn, hi, hh, hd]

/-- A CPU step that reads nothing without a value goes on alike, or faults alike (R500, R601). -/
theorem cpuStep_agrees {s t : State} (h : Agrees s.marks s t) (hreads : ∀ l ∈ s.stepReads, l ∉ s.marks.unwritten) :
    (∃ u v, cpuStep s = .next u ∧ cpuStep t = .next v ∧ Agrees s.stepMarks u v) ∨
      ∃ f, cpuStep s = .fault f ∧ cpuStep t = .fault f := by
  have hnmi : t.nmiPending = s.nmiPending := h.field State.nmiPending fun _ _ => rfl
  have hint : t.intCondition = s.intCondition := h.field State.intCondition fun _ _ => rfl
  have hhalt : t.halted = s.halted := h.field State.halted fun _ _ => rfl
  have hdecode : t.decodeAtPc = s.decodeAtPc := h.field State.decodeAtPc fun _ _ => rfl
  obtain ⟨haccept, hordinary⟩ := stepMarks_cases s
  rcases cpuStep_cases s with ⟨hn, hs⟩ | ⟨hn, hi, hs⟩ | ⟨hn, hi, hh, hs⟩ | ⟨hn, hi, hh, d, hd, hs⟩ | ⟨hn, hi, hh, e, hd, hs⟩
  · have hsp : Loc.sp ∉ s.marks.unwritten := hreads _ (by simp [State.stepReads, hn])
    rw [haccept (.inl hn)]
    exact .inl ⟨_, _, hs, by rw [cpuStep, hnmi, if_pos hn], acceptNmi_agrees h hsp⟩
  · have hsp : ¬ (s.im = .im0 ∧ isRestart s.busByte = false) → Loc.sp ∉ s.marks.unwritten := fun hr =>
      hreads _ (by simp [State.stepReads, hn, hi, hr])
    have ht : cpuStep t = t.acceptInt := by rw [cpuStep, hnmi, hint, if_neg (by simp [hn]), if_pos hi]
    rw [haccept (.inr hi), hs, ht]
    exact acceptInt_agrees h hsp
  · rw [(hordinary (by simp [hn, hi])).1 hh]
    have ht : cpuStep t = .next (t.endShadow.rInc.spend 4) := by
      rw [cpuStep, hnmi, hint, if_neg (by simp [hn]), if_neg (by simp [hi]), State.ordinaryStep, hhalt, if_pos hh]
      rfl
    exact .inl ⟨_, _, hs, ht, h.outside (fun x => x.endShadow.rInc.spend 4) fun _ _ => rfl⟩
  · rw [(hordinary (by simp [hn, hi])).2 hh d hd]
    rw [stepReads_of_decode hd hn hi hh] at hreads
    have ht : cpuStep t = exec d.instr (t.endShadow.fetched d) :=
      cpuStep_of_decode (hdecode.trans hd) (hnmi.trans hn) (hint.trans hi) (hhalt.trans hh)
    have hfetched := h.outside (fun x => x.endShadow.fetched d) fun _ _ => rfl
    have hreads' : d.instr.reads (s.endShadow.fetched d) = d.instr.reads s := by cases d.instr <;> rfl
    have hafter : s.marks.after d.instr (s.endShadow.fetched d) = s.marks.after d.instr s := by cases d.instr <;> rfl
    rw [hs, ht, ← hafter]
    exact .inl (exec_agrees hfetched (by rwa [hreads']))
  · have hpc : t.pc = s.pc := h.field State.pc fun _ _ => rfl
    refine .inr ⟨_, hs, ?_⟩
    rw [← hpc]
    exact cpuStep_of_decodeError (hdecode.trans hd) (hnmi.trans hn) (hint.trans hi) (hhalt.trans hh)

theorem after_congr {i : Instr} (m : Marks) {s t : State} (h : Alike (i.reads s) s t) : m.after i t = m.after i s := by
  cases hx : i.isExchange with
  | false => rw [after_eq_written m t hx, after_eq_written m s hx, writes_congr h]
  | true => rcases of_decide_eq_true hx with rfl | rfl | rfl <;> rfl

/-- A step that reads nothing without a value moves the marks alike. -/
theorem stepMarks_congr {s t : State} (h : Agrees s.marks s t) (hreads : ∀ l ∈ s.stepReads, l ∉ s.marks.unwritten) :
    t.stepMarks = s.stepMarks := by
  have hnmi : t.nmiPending = s.nmiPending := h.field State.nmiPending fun _ _ => rfl
  have hint : t.intCondition = s.intCondition := h.field State.intCondition fun _ _ => rfl
  have hhalt : t.halted = s.halted := h.field State.halted fun _ _ => rfl
  have hdecode : t.decodeAtPc = s.decodeAtPc := h.field State.decodeAtPc fun _ _ => rfl
  have hmarks : t.marks = s.marks := h.field State.marks fun _ _ => rfl
  rw [State.stepMarks, State.stepMarks, hnmi, hint, hhalt, hdecode, hmarks]
  split_ifs with haccept hh
  · rfl
  · rfl
  · cases hd : s.decodeAtPc with
    | error e => rfl
    | ok d =>
      simp only [Bool.or_eq_true, not_or, Bool.not_eq_true] at haccept hh
      rw [stepReads_of_decode hd haccept.1 haccept.2 hh] at hreads
      exact after_congr s.marks (h.alike hreads)

/-! ## The turn of Run -/

/-- A step that enters Run or goes on begins in the state under other labels, of which no instruction takes notice. -/
theorem moveMarks_enterRun (s : State) : s.enterRun.moveMarks = s.relabel .running s.stepMarks := by
  rw [State.moveMarks, stepMarks_enterRun]
  rfl

/-- All that the body of the Run loop comes to, from the CPU step. -/
theorem loopBody_enterRun (frameCycles : Nat) (s : State) :
    (∀ u, cpuStep s = .next u → s.enterRun.loopBody frameCycles =
      .next (((u.relabel .running s.stepMarks).tick (u.cycles - s.cycles)).crossFrames frameCycles)) ∧
    ∀ f, cpuStep s = .fault f → s.enterRun.loopBody frameCycles = .fault f := by
  have hlabel := cpuStep_relabel .running s.stepMarks s
  rw [← moveMarks_enterRun] at hlabel
  refine ⟨fun u hu => ?_, fun f hf => ?_⟩
  · rcases hlabel with ⟨u', hu', hr⟩ | ⟨f, hf, -⟩
    · obtain rfl := Host.Outcome.next.inj (hu.symm.trans hu')
      rw [State.loopBody, hr]
      rfl
    · cases hu.symm.trans hf
  · rcases hlabel with ⟨u, hu, -⟩ | ⟨f', hf', hr⟩
    · cases hu.symm.trans hf
    · obtain rfl := Host.Outcome.fault.inj (hf.symm.trans hf')
      rw [State.loopBody, hr]

/-- A turn that reads nothing without a value goes on alike, or faults alike (R542, R601). -/
theorem loopBody_agrees (frameCycles : Nat) {s t : State} (h : Agrees s.marks s t)
    (hreads : ∀ l ∈ s.stepReads, l ∉ s.marks.unwritten) :
    (∃ u v, s.enterRun.loopBody frameCycles = .next u ∧ t.enterRun.loopBody frameCycles = .next v ∧ AgreeBut u v) ∨
      ∃ f, s.enterRun.loopBody frameCycles = .fault f ∧ t.enterRun.loopBody frameCycles = .fault f := by
  obtain ⟨hs, hsf⟩ := loopBody_enterRun frameCycles s
  obtain ⟨ht, htf⟩ := loopBody_enterRun frameCycles t
  rcases cpuStep_agrees h hreads with ⟨u, v, hu, hv, hagree⟩ | ⟨f, hf, hf'⟩
  · refine .inl ⟨_, _, hs u hu, ht v hv, (agreeBut_iff _ _).2 ?_⟩
    have hspent : v.cycles - t.cycles = u.cycles - s.cycles := by
      rw [hagree.field State.cycles fun _ _ => rfl, h.field State.cycles fun _ _ => rfl]
    rw [hspent, stepMarks_congr h hreads]
    exact hagree.outside
      (fun x => ((x.relabel .running s.stepMarks).tick (u.cycles - s.cycles)).crossFrames frameCycles) fun _ _ => rfl
  · exact .inr ⟨f, hsf f hf, htf f hf'⟩

/-- Run goes on from both states or returns at its entry from both. -/
theorem runIteration_agrees (frameCycles : Nat) {s t : State} (h : Agrees s.marks s t) :
    (∃ u v, runIteration .fault frameCycles s = .machine (.next u) ∧
        runIteration .fault frameCycles t = .machine (.next v) ∧ AgreeBut u v) ∨
      (∃ f, runIteration .fault frameCycles s = .machine (.fault f) ∧
        runIteration .fault frameCycles t = .machine (.fault f)) ∨
      ∃ l, runIteration .fault frameCycles s = .unwrittenRead l ∧ runIteration .fault frameCycles t = .unwrittenRead l := by
  have hrun : t.runState = s.runState := h.field State.runState fun _ _ => rfl
  have hpower : t.powered = s.powered := h.field State.powered fun _ _ => rfl
  have hfault : t.fault = s.fault := h.field State.fault fun _ _ => rfl
  rcases runIteration_cases .fault frameCycles s with ⟨hidle, hend, hs⟩ | ⟨hr, -⟩
  · refine .inl ⟨s, t, hs, ?_, (agreeBut_iff s t).2 h⟩
    rcases runIteration_cases .fault frameCycles t with ⟨-, -, ht⟩ | ⟨hr, -⟩
    · exact ht
    · rw [hrun, hpower, hfault, hidle] at hr
      rcases hend with hoff | hne
      · simp [hoff] at hr
      · simp [hne] at hr
  · rw [runIteration_eq hr, runIteration_eq (by rwa [hrun, hpower, hfault]), State.under, State.under, unwrittenRead_congr h]
    cases hl : s.unwrittenRead .fault with
    | some l => exact .inr (.inr ⟨l, rfl, rfl⟩)
    | none =>
      have hreads : ∀ l ∈ s.stepReads, l ∉ s.marks.unwritten := fun l hm => by
        simpa using List.find?_eq_none.1 hl l hm
      rcases loopBody_agrees frameCycles h hreads with ⟨u, v, hu, hv, hagree⟩ | ⟨f, hf, hf'⟩
      · exact .inl ⟨u, v, congrArg _ hu, congrArg _ hv, hagree⟩
      · exact .inr (.inl ⟨f, congrArg _ hf, congrArg _ hf'⟩)

/-- After PowerOn nothing that may hold no value holds one. -/
theorem powerOn_agrees (s : State) (drawn drawn' : DrawnRegisters) : AgreeBut (s.powerOn drawn) (s.powerOn drawn') := by
  refine (agreeBut_iff _ _).2 ⟨rfl, fun l hl => absurd (mem_allLocs l) hl, fun l hl => ?_⟩
  exact sameFile_of_notMem_shadowLocs hl _ _

/-- Settles O58: the two turns go on, fault or read a register without a value together. -/
theorem unwrittenValuesDoNotMatter : Obligations.UnwrittenValuesDoNotMatter := by
  intro frameCycles s t
  refine ⟨fun hagree => ?_, powerOn_agrees s⟩
  rcases runIteration_agrees frameCycles ((agreeBut_iff s t).1 hagree) with ⟨u, v, hs, ht, huv⟩ | ⟨f, hs, ht⟩ | ⟨l, hs, ht⟩
  all_goals rw [hs]
  · refine ⟨fun s' h => ?_, fun f h => by simp at h, fun l h => by simp at h⟩
    obtain rfl := Host.Outcome.next.inj (ModelOutcome.machine.inj h)
    exact ⟨v, ht, huv⟩
  · exact ⟨fun s' h => (by simp at h), fun f' h => h ▸ ht, fun l h => by simp at h⟩
  · exact ⟨fun s' h => (by simp at h), fun f h => by simp at h, fun l' h => h ▸ ht⟩

end Sys2Proof

/-! PROOF. What every instruction costs (O13), and the families of the stack and the exchanges (O35, O36, O37). -/

namespace Sys2Proof

open Sys2Proof.Machine

/-! ## The timing table (R630) -/

/-- Every T-state count of the table is from 4 to 23. -/
theorem tStates_bounds (i : Instr) {n : Nat} (h : n ∈ i.tStates) : 4 ≤ n ∧ n ≤ 23 := by
  have hall : (i.tStates.all fun n => decide (4 ≤ n ∧ n ≤ 23)) = true := by cases i <;> rfl
  exact of_decide_eq_true (List.all_eq_true.1 hall n h)

/-- A transfer costs what its outcome costs, before which it has spent nothing. -/
theorem finishIf_tStates {c : Bool} {n m : Nat} {s t u : State} (ht : t.cycles = s.cycles) (hu : u.cycles = s.cycles) :
    ∃ k ∈ [n, m], ∃ v, finishIf c n t m u = finish k v ∧ v.cycles = s.cycles := by
  cases c
  · exact ⟨m, .tail _ (.head _), u, rfl, hu⟩
  · exact ⟨n, .head _, t, rfl, ht⟩

theorem finishRepeat_tStates {c : Bool} {s u : State} (hu : u.cycles = s.cycles) :
    ∃ k ∈ [21, 16], ∃ v, finishRepeat c u = finish k v ∧ v.cycles = s.cycles := by
  cases c
  · exact ⟨16, .tail _ (.head _), u, rfl, hu⟩
  · exact ⟨21, .head _, u.rewind, rfl, hu⟩

theorem finishIoRepeat_tStates {c : Bool} {s u : State} (hu : u.cycles = s.cycles) :
    ∃ k ∈ [21, 16], ∃ v, finishIoRepeat c u = finish k v ∧ v.cycles = s.cycles := by
  cases c
  · exact ⟨16, .tail _ (.head _), u, rfl, hu⟩
  · exact ⟨21, .head _, u.jump (u.pc - 2), rfl, hu⟩

/-- Every instruction ends by spending T-states that the table lists for it, and spends none before. -/
theorem exec_tStates (i : Instr) (s : State) : ∃ n ∈ i.tStates, ∃ u, exec i s = finish n u ∧ u.cycles = s.cycles := by
  cases i with
  | ldPairNn p | ldPairMemNn p | incPair p | decPair p => exact ⟨_, .head _, _, rfl, by cases p <;> rfl⟩
  | popPair q => exact ⟨_, .head _, _, rfl, by cases q <;> rfl⟩
  | jpCond cc nn =>
    refine ⟨10, .head _, if cc.on s.regs.f then s.jump nn else s, ?_, ?_⟩
    · rw [exec_jpCond, finishIf, ite_self]
    · split <;> rfl
  | jrCond | callCond | retCond | djnz => exact finishIf_tStates rfl rfl
  | ldir | lddr | cpir | cpdr => exact finishRepeat_tStates rfl
  | inir | indr | otir | otdr => exact finishIoRepeat_tStates rfl
  | _ => exact ⟨_, .head _, _, rfl, rfl⟩

/-- Settles O13, by the table's bounds and what an instruction ends in. -/
theorem everyInstructionCompletes : Obligations.EveryInstructionCompletes := by
  intro i s
  obtain ⟨n, hn, u, he, hu⟩ := exec_tStates i s
  obtain ⟨hlow, hhigh⟩ := tStates_bounds i hn
  have hspent : (u.spend n).cycles = s.cycles + n := congrArg (· + n) hu
  refine ⟨u.spend n, he, by omega, by omega, ?_⟩
  rwa [hspent, Nat.add_sub_cancel_left]

/-! ## The stack (R430 to R435) -/

/-- More parts may be named, and in another order. -/
theorem Completes.parts_mono {i : Instr} {s : State} {n : Nat} {P Q : List Part} {post : State → Prop}
    (h : Completes i s n P post) (hsub : ∀ p ∈ P, p ∈ Q) : Completes i s n Q post :=
  have ⟨t, he, hc, hf, hp⟩ := h
  ⟨t, he, hc, fun p hq => hf p fun hm => hq ((List.mem_cons.1 hm).elim (· ▸ .head _) fun hm => .tail _ (hsub p hm)), hp⟩

section

variable {i : Instr} {s : State} {n : Nat}

theorem completes_push16 {w : Word} (he : exec i s = finish n (s.push16 w)) :
    Completes i s n [.sp, .memory, .slots] (Pushed w s) :=
  have hstored := (stored_push16 s w).congr (readByte_spend _ n) rfl
  completes_confined he (.of_push16 s w) rfl ⟨rfl, hstored⟩

theorem stackPair_setStackPair (s : State) (q : StackPair) (w : Word) : (s.setStackPair q w).stackPair q = w := by
  cases q
  all_goals exact join_hi8_lo8 w

theorem completes_popPair {q : StackPair} (he : exec i s = finish n (s.popped.setStackPair q s.stackTop)) :
    Completes i s n (.sp :: q.parts) fun t => t.sp = s.sp + 2 ∧ t.stackPair q = s.stackTop := by
  have hsp : (s.popped.setStackPair q s.stackTop).sp = s.sp + 2 := by cases q <;> rfl
  have hspend : ∀ t : State, (t.spend n).stackPair q = t.stackPair q := fun t => by cases q <;> rfl
  exact completes_confined he (.of_popped_setStackPair s q _) (by cases q <;> rfl)
    ⟨hsp, (hspend _).trans (stackPair_setStackPair _ q _)⟩

theorem completes_popIndex {x : Index} (he : exec i s = finish n (s.popped.setIndex x s.stackTop)) :
    Completes i s n [x.part, .sp] fun t => t.sp = s.sp + 2 ∧ t.index x = s.stackTop := by
  cases x
  all_goals exact completes_confined he (.of_popped_setIndex s _ _) rfl ⟨rfl, rfl⟩

end

/-- Settles O35: every PUSH is one push, every POP writes the top of the stack to its place. -/
theorem pushPop : Obligations.PushPop := by
  intro s pushed top
  have htop : top = s.stackTop := (stackTop_eq s).symm
  rw [htop]
  refine ⟨fun q => ?pushPair, ?pushIx, ?pushIy, fun q => ?popPair, ?popIx, ?popIy⟩
  case pushPair | pushIx | pushIy => exact completes_push16 rfl
  case popPair => exact completes_popPair rfl
  case popIx => exact (completes_popIndex (x := .ix) rfl).parts_mono (by decide)
  case popIy => exact (completes_popIndex (x := .iy) rfl).parts_mono (by decide)

/-- A word pushed into system RAM is what the next pop returns, and that pop brings SP back (R430, R431). -/
theorem Pushed.stackTop {w : Word} {s t : State} (h : Pushed w s t) (hhigh : 0xC000 ≤ (s.sp - 1).toNat)
    (hlow : 0xC000 ≤ (s.sp - 2).toNat) : t.stackTop = w ∧ t.sp + 2 = s.sp :=
  Returned.of_pushed (u := t.returnTo) h ⟨toNat_readWord t t.sp, rfl⟩ hhigh hlow

/-- Settles O36: what is pushed is the top of the stack that the pop or the return finds. -/
theorem stackRoundTrip : Obligations.StackRoundTrip := by
  intro s hhigh hlow
  refine ⟨fun p q => ?_, fun nn => ?_⟩
  · obtain ⟨t, ht, -, -, hpush⟩ := completes_push16 (i := .pushPair p) (s := s) rfl
    obtain ⟨u, hu, -, -, hsp, hpair⟩ := completes_popPair (i := .popPair q) (s := t) rfl
    obtain ⟨htop, hback⟩ := hpush.stackTop hhigh hlow
    exact ⟨t, u, ht, hu, hpair.trans htop, hsp.trans hback⟩
  · obtain ⟨t, ht, -, -, htarget, hpush⟩ := completes_callTo (i := .call nn) (s := s) rfl
    obtain ⟨u, hu, -, -, hret⟩ := completes_returnTo (i := .ret) (s := t) rfl
    obtain ⟨hpc, hsp⟩ := hret.of_pushed hpush hhigh hlow
    exact ⟨t, u, ht, hu, htarget, hpc, hsp⟩

/-! ## The exchanges (R436 to R440) -/

section

variable {i : Instr} {s : State} {n : Nat}

/-- An exchange with the word at SP: the register's word is stored there, and the word found there is written to it. -/
theorem completes_exMemSpHl (he : exec i s = finish n ((s.storeTop s.hl).setHl s.stackTop)) :
    Completes i s n [.reg .h, .reg .l, .memory, .slots] fun t => t.hl = s.stackTop ∧
      Stored [(s.sp, BitVec.ofNat 8 (s.hl.toNat % 256)), (s.sp + 1, BitVec.ofNat 8 (s.hl.toNat / 256))] s t :=
  have hstored := (stored_storeWord s s.sp s.hl).congr (readByte_congr rfl rfl rfl rfl) rfl
  completes_confined he (.of_exMemSpHl s _ _) rfl ⟨join_hi8_lo8 _, hstored⟩

theorem completes_exMemSpIndex {x : Index} (he : exec i s = finish n ((s.storeTop (s.index x)).setIndex x s.stackTop)) :
    Completes i s n [x.part, .memory, .slots] fun t =>
      t.index x = s.stackTop ∧
        Stored [(s.sp, BitVec.ofNat 8 ((s.index x).toNat % 256)),
          (s.sp + 1, BitVec.ofNat 8 ((s.index x).toNat / 256))] s t := by
  have hstored := stored_storeWord s s.sp (s.index x)
  cases x
  all_goals
    exact completes_confined he (.of_exMemSpIndex s _ _ _) rfl
      ⟨rfl, hstored.congr (readByte_congr rfl rfl rfl rfl) rfl⟩

end

/-- Settles O37: EX DE,HL, EX AF,AF' and EXX move registers, the other three a register and the word at SP. -/
theorem exchanges : Obligations.Exchanges := by
  intro s bytes top
  have htop : top = s.stackTop := (stackTop_eq s).symm
  rw [htop]
  refine ⟨?exDeHl, ?exAfAf, ?exx, ?exMemSpHl, ?exMemSpIx, ?exMemSpIy⟩
  case exDeHl => exact completes_confined rfl (.of_exDeHl s) rfl ⟨join_hi8_lo8 s.hl, join_hi8_lo8 s.de⟩
  case exAfAf => exact completes_confined rfl (.of_exAfAf s) rfl ⟨rfl, rfl, rfl⟩
  case exx =>
    exact Completes.parts_mono (completes_confined rfl (.of_exx s) rfl ⟨rfl, rfl⟩) (by decide)
  case exMemSpHl => exact completes_exMemSpHl rfl
  case exMemSpIx => exact completes_exMemSpIndex (x := .ix) rfl
  case exMemSpIy => exact completes_exMemSpIndex (x := .iy) rfl

end Sys2Proof

/-! PROOF. The ports (R470 to R482): IN and OUT of one byte (O38), and the block forms (O39), whose eight instructions share
one iteration of input and one of output. -/

namespace Sys2Proof

open Sys2Proof.Machine

/-! ## One byte (R470 to R473) -/

/-- The port of the immediate forms: A above the operand (R470, R472). -/
theorem portA_eq (s : State) (n : Byte) : s.portA n = BitVec.ofNat 16 (256 * s.regs.a.toNat + n.toNat) := by
  rw [State.portA, join_eq, Nat.add_comm]

/-- An IORead takes the answer lined up first (R111). -/
theorem ioByte_of_answers {s : State} {v : Byte} {rest : List Byte} (h : s.ioAnswers = v :: rest) :
    s.ioByte = v ∧ s.ioAnswers.tail = rest := by
  rw [State.ioByte, h]
  exact ⟨rfl, rfl⟩

section

variable {i : Instr} {s : State} {n : Nat}

theorem completes_ioWrite {port : Word} {v : Byte} (he : exec i s = finish n (s.ioWrite port v)) :
    Completes i s n [.events] fun t => t.events = s.events ++ [.ioWrite port v] :=
  completes_confined he (.of_ioWrite s port v) rfl rfl

theorem completes_inA {port : Word} (he : exec i s = finish n ((s.ioRead port).setA s.ioByte)) :
    Completes i s n [.reg .a, .ioAnswers, .events, .draws] fun t =>
      t.events = s.events ++ [.ioRead port] ∧ ∀ v rest, s.ioAnswers = v :: rest → t.ioAnswers = rest ∧ t.reg8 .a = v :=
  completes_confined he (.of_inA s port s.ioByte) rfl ⟨rfl, fun _ _ h => (ioByte_of_answers h).symm⟩

/-- IN r,(C) sets the flags of the byte it reads (R471). -/
theorem completes_inReg {port : Word} {r : Reg8}
    (he : exec i s = finish n (((s.ioRead port).setReg8 r s.ioByte).setFlags (byteFlags s.flags s.ioByte))) :
    Completes i s n [.reg r, .f, .ioAnswers, .events, .draws] fun t =>
      t.events = s.events ++ [.ioRead port] ∧ t.flags =
        { s := (t.reg8 r).msb, z := t.reg8 r == 0, y := (t.reg8 r).getLsbD 5, h := false, x := (t.reg8 r).getLsbD 3,
          pv := evenOnes (t.reg8 r), n := false, c := s.flags.c } ∧
      ∀ v rest, s.ioAnswers = v :: rest → t.ioAnswers = rest ∧ t.reg8 r = v := by
  refine completes_confined he (.of_inReg s port r s.ioByte s.ioByte) rfl ⟨rfl, ?flags, fun v rest h => ?answer⟩
  all_goals
    have hread : ((((s.ioRead port).setReg8 r s.ioByte).setFlags (byteFlags s.flags s.ioByte)).spend n).reg8 r = s.ioByte :=
      (RegFile.get_with_f _ r _).trans (RegFile.get_set_same s.regs r s.ioByte)
  case flags =>
    rw [hread]
    exact (State.flags_setFlags _ _).trans (byteFlags_eq s.flags s.ioByte)
  case answer =>
    obtain ⟨hbyte, hrest⟩ := ioByte_of_answers h
    exact ⟨hrest, hread.trans hbyte⟩

end

/-- Settles O38: an OUT is one IOWrite, an IN one IORead into a register. -/
theorem portTransfer : Obligations.PortTransfer := by
  intro s n r port
  have hport : port = s.portA n := (portA_eq s n).symm
  rw [hport]
  exact ⟨completes_ioWrite rfl, completes_ioWrite rfl, completes_inA rfl, completes_inReg rfl⟩

/-! ## The block forms (R474 to R482) -/

theorem exec_blockIn (down : Bool) (s : State) :
    exec (if down then .ind else .ini) s = finish 16 (s.blockIn (blockStep down)) := by
  cases down <;> rfl

theorem exec_blockOut (down : Bool) (s : State) :
    exec (if down then .outd else .outi) s = finish 16 (s.blockOut (blockStep down)) := by
  cases down <;> rfl

theorem exec_blockInRepeat (down : Bool) (s : State) :
    exec (if down then .indr else .inir) s =
      finishIoRepeat (decide (s.regs.b ≠ 1)) (s.blockIn (blockStep down)) := by
  rw [← sub_bne_zero]
  cases down <;> rfl

theorem exec_blockOutRepeat (down : Bool) (s : State) :
    exec (if down then .otdr else .otir) s =
      finishIoRepeat (decide (s.regs.b ≠ 1)) (s.blockOut (blockStep down)) := by
  rw [← sub_bne_zero]
  cases down <;> rfl

/-- HL is stepped, B counted down, and Z says that B reached 0 (R482). -/
def PortStepped (step : Word) (s t : State) : Prop :=
  t.hl = s.hl + step ∧ t.reg8 .b = s.regs.b - 1 ∧ t.flags.z = decide (s.regs.b = 1)

/-- One byte has come from port BC to memory at HL. -/
def BlockReceived (step : Word) (s t : State) : Prop :=
  PortStepped step s t ∧ t.events = s.events ++ [.ioRead s.bc] ∧
    ∃ v, Stored [(s.hl, v)] s t ∧ ∀ w rest, s.ioAnswers = w :: rest → v = w ∧ t.ioAnswers = rest

/-- The byte at HL has gone to the port whose high half is B counted down. -/
def BlockSent (step : Word) (s t : State) : Prop :=
  PortStepped step s t ∧ t.events = s.events ++
    [.ioWrite (BitVec.ofNat 16 (256 * (s.regs.b - 1).toNat + s.regs.c.toNat)) (s.readByte s.hl)]

theorem blockIoFlags_z (free b : Byte) : (blockIoFlags free (b - 1)).z = decide (b = 1) := sub_beq_zero b 1

theorem blockReceived_blockIn (step : Word) (s : State) : BlockReceived step s (s.blockIn step) := by
  have hz : (s.blockIn step).flags.z = decide (s.regs.b = 1) :=
    (congrArg FlagBits.z (State.flags_setFlags _ _)).trans (blockIoFlags_z _ _)
  have hstored : Stored [(s.hl, s.ioByte)] s (s.blockIn step) :=
    (stored_store s s.hl s.ioByte).congr (readByte_congr rfl rfl rfl rfl) rfl
  exact ⟨⟨join_hi8_lo8 _, rfl, hz⟩, rfl, s.ioByte, hstored, fun _ _ h => ioByte_of_answers h⟩

theorem blockSent_blockOut (step : Word) (s : State) : BlockSent step s (s.blockOut step) := by
  have hz : (s.blockOut step).flags.z = decide (s.regs.b = 1) :=
    (congrArg FlagBits.z (State.flags_setFlags _ _)).trans (blockIoFlags_z _ _)
  refine ⟨⟨join_hi8_lo8 _, rfl, hz⟩, ?_⟩
  rw [Nat.add_comm, ← join_eq]
  rfl

/-- Neither the T-states nor the way back to the first byte matters to what was received. -/
theorem BlockReceived.congr {step : Word} {s u : State} (h : BlockReceived step s u) (w : Word) (n : Nat) :
    BlockReceived step s (u.spend n) ∧ BlockReceived step s ((u.jump w).spend n) := by
  obtain ⟨hstepped, hevents, v, hstored, hanswer⟩ := h
  exact ⟨⟨hstepped, hevents, v, hstored.congr (readByte_congr rfl rfl rfl rfl) rfl, hanswer⟩,
    hstepped, hevents, v, hstored.congr (readByte_congr rfl rfl rfl rfl) rfl, hanswer⟩

section

variable {i : Instr} {s u : State} {P Q : List Part} {F : List FlagName} {A : List Word} {post : State → Prop}

/-- A block form that does not go back. -/
theorem completes_io_last (he : exec i s = finish 16 u) (hu : Confined P F A s u) (hc : u.cycles = s.cycles)
    (hsub : ∀ p ∈ P, p ∈ Q) (hp : post (u.spend 16)) : Completes i s 16 Q post :=
  (completes_confined he hu hc hp).parts_mono hsub

/-- A block form that goes back to its own first byte (R378). -/
theorem completes_io_again (he : exec i s = finishIoRepeat true u) (hu : Confined P F A s u) (hc : u.cycles = s.cycles)
    (hsub : ∀ p ∈ P, p ∈ Q) (hp : post ((u.jump (u.pc - 2)).spend 21)) : Completes i s 21 (.pc :: Q) post :=
  Completes.parts_mono (completes_confined he (hu.branch_jump true (u.pc - 2)) hc hp) fun _ hm =>
    (List.mem_cons.1 hm).elim (· ▸ .head _) fun hm => .tail _ (hsub _ hm)

end

/-- Settles O39: every form is one iteration, and the repeating forms go back unless B was 1. -/
theorem blockPorts : Obligations.BlockPorts := by
  intro s down step stepped inputs received port outputs sent
  have hreceived := blockReceived_blockIn (blockStep down) s
  have hsent := blockSent_blockOut (blockStep down) s
  have hin := Confined.of_blockIn s (blockStep down)
  have hout := Confined.of_blockOut s (blockStep down)
  have hinRepeat := exec_blockInRepeat down s
  have houtRepeat := exec_blockOutRepeat down s
  have inputLast : ∀ {i}, exec i s = finish 16 (s.blockIn (blockStep down)) → Completes i s 16 inputs received := fun he =>
    completes_io_last he hin rfl (by decide) (hreceived.congr 0 16).1
  have outputLast : ∀ {i}, exec i s = finish 16 (s.blockOut (blockStep down)) → Completes i s 16 outputs sent := fun he =>
    completes_io_last he hout rfl (by decide) hsent
  refine ⟨inputLast (exec_blockIn down s), outputLast (exec_blockOut down s), fun hlast => ?last, fun hmore => ?again⟩
  case last =>
    rw [decide_eq_false (not_not_intro hlast)] at hinRepeat houtRepeat
    exact ⟨inputLast hinRepeat, outputLast houtRepeat⟩
  case again =>
    rw [decide_eq_true hmore] at hinRepeat houtRepeat
    exact ⟨completes_io_again hinRepeat hin rfl (by decide) ⟨(hreceived.congr _ 21).2, rfl⟩,
      completes_io_again houtRepeat hout rfl (by decide) ⟨hsent, rfl⟩⟩

end Sys2Proof

/-! PROOF. What a step boundary does (R451, R510 to R517, R530): the halted step (O45), the acceptance of an NMI (O43) and
that of a maskable interrupt in its three modes (O44). -/

namespace Sys2Proof

open Sys2Proof.Machine

/-! ## The INT condition (R511) -/

theorem intCondition_iff (s : State) :
    s.intCondition = true ↔ s.intLine = true ∧ s.iff1 = true ∧ s.eiShadow = false := by
  simp [State.intCondition, and_assoc]

theorem intCondition_eq_false (s : State) :
    s.intCondition = false ↔ s.intLine = false ∨ s.iff1 = false ∨ s.eiShadow = true := by
  rw [← Bool.not_eq_true, intCondition_iff]
  simp only [not_and_or, Bool.not_eq_true, Bool.not_eq_false]

/-- A CPU step with an NMI pending accepts it (R517). -/
theorem cpuStep_of_nmi {s : State} (h : s.nmiPending = true) : cpuStep s = .next s.acceptNmi := if_pos h

/-- A CPU step with no NMI pending and the INT condition accepts the INT (R511, R517). -/
theorem cpuStep_of_int {s : State} (hn : s.nmiPending = false) (hi : s.intCondition = true) : cpuStep s = s.acceptInt := by
  simp [cpuStep, hn, hi]

/-- A halted CPU step with no interrupt to take (R530). -/
theorem cpuStep_of_halted {s : State} (hn : s.nmiPending = false) (hi : s.intCondition = false) (hh : s.halted = true) :
    cpuStep s = .next (s.endShadow.rInc.spend 4) := by
  simp [cpuStep, State.ordinaryStep, State.haltedStep, finish, hn, hi, hh]

/-! ## The halted step (R451, R454) -/

/-- Settles O45: with no interrupt to take a halted step is one fetch and 4 T-states. -/
theorem haltedStep : Obligations.HaltedStep := by
  intro s hh hn hint
  have hi := (intCondition_eq_false s).2 hint
  refine ⟨_, cpuStep_of_halted hn hi hh, rfl, rfl, refresh_low s.r, refresh_msb s.r, fun p hp => ?_⟩
  cases p with
  | eiShadow | rReg | cycles => simp at hp
  | memory => exact same_memory rfl rfl rfl rfl
  | _ => rfl

/-! ## The acceptance of an interrupt (R510 to R516) -/

/-- Two frames in a row are one frame over the parts of both. -/
theorem UnchangedBut.trans {P Q R : List Part} {s t u : State} (h : UnchangedBut P s t) (h' : UnchangedBut Q t u)
    (hP : P ⊆ R) (hQ : Q ⊆ R) : UnchangedBut R s u := fun p hp =>
  Part.same_trans (h p fun hm => hp (hP hm)) (h' p fun hm => hp (hQ hm))

theorem unchangedBut_clearNmi (s : State) : UnchangedBut [.nmiPending] s { s with nmiPending := false } := fun p hp => by
  cases p with
  | nmiPending => exact absurd (.head _) hp
  | memory => exact same_memory rfl rfl rfl rfl
  | _ => rfl

theorem unchangedBut_intAck (s : State) : UnchangedBut [.events] s s.intAck := fun p hp => by
  cases p with
  | events => exact absurd (.head _) hp
  | memory => exact same_memory rfl rfl rfl rfl
  | _ => rfl

/-- Settles O43: the acceptance is the common entry with IFF2 kept, after the latch is cleared. -/
theorem nmiAcceptance : Obligations.NmiAcceptance := by
  intro s hnmi
  obtain ⟨hhalted, hshadow, hr, hiff1, hiff2, hsp, hcycles, hstored, hframe⟩ :=
    enterInterrupt_all { s with nmiPending := false } s.iff2 (fun _ => 0x0066) 11
  refine ⟨s.acceptNmi, cpuStep_of_nmi hnmi, rfl, hhalted, hshadow, hiff1, hiff2, rfl, hsp, hcycles, refresh_low s.r,
    refresh_msb s.r, hstored, fun p hp => ?frame, _, rfl, hiff2⟩
  case frame =>
    by_cases hp2 : p = .iff2
    · exact hp2 ▸ hiff2
    · have hentry := (unchangedBut_clearNmi s).trans hframe (R := .iff2 :: [.nmiPending, .halted, .eiShadow, .iff1, .pc,
        .sp, .cycles, .rReg, .memory, .slots]) (by decide) (by decide)
      exact hentry p fun hm => (List.mem_cons.1 hm).elim hp2 hp

/-- The restarts among the bus bytes are 0xC7, 0xCF and on to 0xFF (R410, R512). -/
theorem isRestart_iff (b : Byte) : isRestart b = true ↔ ∃ k, k < 8 ∧ b.toNat = 0xC7 + 8 * k := by
  revert b
  decide

/-- The address a restart on the bus calls (R512). -/
theorem restartVector_eq {b : Byte} (h : isRestart b = true) : zext16 (b &&& 0x38) = BitVec.ofNat 16 (b.toNat - 0xC7) := by
  revert b
  decide

/-- What every maskable acceptance does, but for the vector (R510, R511, R516). -/
def IntAccepted (n : Nat) (s t : State) : Prop :=
  t.halted = false ∧ t.eiShadow = false ∧ t.iff1 = false ∧ t.iff2 = false ∧ t.sp = s.sp - 2 ∧
    t.cycles = s.cycles + n ∧ t.r.toNat % 128 = (s.r.toNat + 1) % 128 ∧ t.r.msb = s.r.msb ∧
    t.events = s.events ++ [.intAck s.busByte] ∧
    Stored [(s.sp - 1, BitVec.ofNat 8 (s.pc.toNat / 256)), (s.sp - 2, BitVec.ofNat 8 (s.pc.toNat % 256))] s t ∧
    UnchangedBut [.halted, .eiShadow, .iff1, .iff2, .pc, .sp, .cycles, .rReg, .events, .memory, .slots] s t

theorem intAccepted_enterInterrupt (s : State) (vector : State → Word) (n : Nat) :
    IntAccepted n s (s.enterInterrupt false vector n).intAck := by
  obtain ⟨hhalted, hshadow, hr, hiff1, hiff2, hsp, hcycles, hstored, hframe⟩ := enterInterrupt_all s false vector n
  refine ⟨hhalted, hshadow, hiff1, hiff2, hsp, hcycles, refresh_low s.r, refresh_msb s.r, rfl,
    hstored.congr (readByte_congr rfl rfl rfl rfl) rfl, ?_⟩
  exact hframe.trans (unchangedBut_intAck _) (by decide) (by decide)

/-- The table entry of mode 2, read after the push (R514). -/
theorem mode2Vector_eq (s : State) (n : Nat) :
    let t := (s.enterInterrupt false (fun pushed => pushed.readWord (join s.i s.busByte)) n).intAck
    let table := BitVec.ofNat 16 (256 * s.i.toNat + s.busByte.toNat)
    t.pc = BitVec.ofNat 16 ((t.readByte table).toNat + 256 * (t.readByte (table + 1)).toNat) := by
  intro t table
  have htable : join s.i s.busByte = table := by rw [join_eq, Nat.add_comm]
  rw [← readWord_eq, ← htable]
  exact enterInterrupt_pc s false n (fun pushed => pushed.readWord (join s.i s.busByte)) fun u v hread _ _ => by
    rw [State.readWord, State.readWord, hread, hread]

/-- Settles O44, by the mode; in mode 0 by whether the bus byte is a restart. -/
theorem intAcceptance : Obligations.IntAcceptance := by
  intro s hn hline hiff hshadow accepted
  have hstep : cpuStep s = s.acceptInt := cpuStep_of_int hn ((intCondition_iff s).2 ⟨hline, hiff, hshadow⟩)
  have accept : ∀ n vector, cpuStep s = .next (s.enterInterrupt false vector n).intAck →
      ∀ target, (s.enterInterrupt false vector n).intAck.pc = target (s.enterInterrupt false vector n).intAck →
        accepted n target := fun n vector hnext target hpc => by
    obtain ⟨hh, he, h1, h2, hrest⟩ := intAccepted_enterInterrupt s vector n
    exact ⟨_, hnext, hh, he, h1, h2, hpc, hrest⟩
  rw [← isRestart_iff]
  rcases acceptInt_cases s with ⟨hm, hb, ha⟩ | ⟨hm, hb, ha⟩ | ⟨hm, ha⟩ | ⟨hm, ha⟩
  all_goals rw [hm]
  · exact ⟨fun _ _ => accept 13 _ (hstep.trans ha) _ (restartVector_eq hb), fun _ hno => absurd hb hno, nofun, nofun⟩
  · exact ⟨fun _ hyes => absurd (hyes.symm.trans hb) (by decide), fun _ _ => hstep.trans ha, nofun, nofun⟩
  · exact ⟨nofun, nofun, fun _ => accept 13 _ (hstep.trans ha) _ rfl, nofun⟩
  · exact ⟨nofun, nofun, nofun, fun _ => accept 19 _ (hstep.trans ha) _ (mode2Vector_eq s 19)⟩

end Sys2Proof

/-! PROOF. The machine's step in every state (O41, O57): what the CPU step comes to and what it costs, as one turn of
Run. -/

namespace Sys2Proof

open Sys2Proof.Machine

/-! ## The CPU step: T-states and outcomes (R500, R530, R630) -/

/-- A CPU step costs from 4 to 23 T-states, be it an acceptance, a halted step or an instruction. -/
theorem cpuStep_cycles {s t : State} (h : cpuStep s = .next t) : s.cycles + 4 ≤ t.cycles ∧ t.cycles ≤ s.cycles + 23 := by
  have spends : ∀ (u : State) (n : Nat), u.cycles = s.cycles + n → 4 ≤ n → n ≤ 23 →
      s.cycles + 4 ≤ u.cycles ∧ u.cycles ≤ s.cycles + 23 := fun u n hu hlow hhigh => by omega
  rcases cpuStep_cases s with ⟨-, hs⟩ | ⟨-, -, hs⟩ | ⟨-, -, -, hs⟩ | ⟨-, -, -, d, -, hs⟩ | ⟨-, -, -, e, -, hs⟩
  case inl =>
    obtain rfl := Host.Outcome.next.inj (h.symm.trans hs)
    exact spends _ 11 rfl (by decide) (by decide)
  case inr.inl =>
    have hint := h.symm.trans hs
    rcases acceptInt_cases s with ⟨-, -, ha⟩ | ⟨-, -, ha⟩ | ⟨-, ha⟩ | ⟨-, ha⟩
    · obtain rfl := Host.Outcome.next.inj (hint.trans ha)
      exact spends _ 13 rfl (by decide) (by decide)
    · cases hint.trans ha
    · obtain rfl := Host.Outcome.next.inj (hint.trans ha)
      exact spends _ 13 rfl (by decide) (by decide)
    · obtain rfl := Host.Outcome.next.inj (hint.trans ha)
      exact spends _ 19 rfl (by decide) (by decide)
  case inr.inr.inl =>
    obtain rfl := Host.Outcome.next.inj (h.symm.trans hs)
    exact spends _ 4 rfl (by decide) (by decide)
  case inr.inr.inr.inl =>
    obtain ⟨u, hu, hlow, hhigh, -⟩ := everyInstructionCompletes d.instr (s.endShadow.fetched d)
    obtain rfl := Host.Outcome.next.inj ((h.symm.trans hs).trans hu)
    exact ⟨hlow, hhigh⟩
  case inr.inr.inr.inr => cases h.symm.trans hs

/-- A CPU step goes on, or faults at decoding on fatal bytes, or at a mode-0 acceptance of a byte that is no restart. -/
theorem cpuStep_total (s : State) :
    (∃ t, cpuStep s = .next t) ∨
    (∃ rec, cpuStep s = .fault (.unsupportedOpcode .decode rec) ∧ rec.pc = s.pc ∧
      Fatal (s.readByte s.pc) (s.readByte (s.pc + 1)) (s.readByte (s.pc + 3))) ∨
    (∃ rec, cpuStep s = .fault (.unsupportedOpcode .busByte rec) ∧ rec = ⟨s.pc, [s.busByte]⟩ ∧ s.intLine = true ∧
      s.iff1 = true ∧ s.im = .im0 ∧ ¬ ∃ k, k < 8 ∧ s.busByte.toNat = 0xC7 + 8 * k) := by
  rcases cpuStep_cases s with ⟨-, hs⟩ | ⟨-, hi, hs⟩ | ⟨-, -, -, hs⟩ | ⟨-, -, -, d, -, hs⟩ | ⟨-, -, -, e, he, hs⟩
  · exact .inl ⟨_, hs⟩
  · obtain ⟨hline, hiff, -⟩ := (intCondition_iff s).1 hi
    rcases acceptInt_cases s with ⟨-, -, ha⟩ | ⟨hm, hb, ha⟩ | ⟨-, ha⟩ | ⟨-, ha⟩
    · exact .inl ⟨_, hs.trans ha⟩
    · have hno : ¬ ∃ k, k < 8 ∧ s.busByte.toNat = 0xC7 + 8 * k := by rw [← isRestart_iff, hb]; exact Bool.false_ne_true
      exact .inr (.inr ⟨_, hs.trans ha, rfl, hline, hiff, hm, hno⟩)
    · exact .inl ⟨_, hs.trans ha⟩
    · exact .inl ⟨_, hs.trans ha⟩
  · exact .inl ⟨_, hs⟩
  · obtain ⟨t, ht⟩ := exec_next d.instr (s.endShadow.fetched d)
    exact .inl ⟨t, hs.trans ht⟩
  · obtain ⟨hfatal, -⟩ :=
      fatalSequences (s.readByte s.pc) (s.readByte (s.pc + 1)) (s.readByte (s.pc + 2)) (s.readByte (s.pc + 3))
    exact .inr (.inl ⟨_, hs, rfl, hfatal.1 ⟨e, he⟩⟩)

/-! ## The turn of Run (R542, R544, R546) -/

/-- Run returns at its entry where the power flag is clear or a fault is recorded (R504, R546). -/
theorem runReturnsAtOnce_iff (s : State) : s.runReturnsAtOnce = true ↔ s.powered = false ∨ s.fault ≠ none := by
  simp [State.runReturnsAtOnce, Option.isSome_iff_ne_none]

theorem turn_of_returnsAtOnce {s : State} (hidle : s.runState = .idle) (h : s.powered = false ∨ s.fault ≠ none)
    (frameCycles : Nat) : s.turn frameCycles = .next s := by
  simp [State.turn, hidle, (runReturnsAtOnce_iff s).2 h]

/-- Settles O41: a turn is its CPU step in the running state, of which the CPU takes no notice. -/
theorem machineStep : Obligations.MachineStep := by
  intro s
  refine ⟨fun hidle hend => turn_of_returnsAtOnce hidle hend _, fun hr => ?_⟩
  obtain ⟨hnext, hfault⟩ := loopBody_enterRun Config.frameCycles s
  rw [← step_eq_loopBody hr] at hnext hfault
  refine ⟨fun t ht => ?_, hfault⟩
  obtain ⟨hlow, hhigh⟩ := cpuStep_cycles ht
  exact ⟨hlow, hhigh, hnext t ht⟩

/-- Settles O57: the machine's step goes on or faults as its CPU step does. -/
theorem stepIsTotal : Obligations.StepIsTotal := by
  intro s
  obtain ⟨hstays, hgoes⟩ := machineStep s
  rcases turn_cases Config.frameCycles s with ⟨hidle, hend, -⟩ | ⟨hr, -⟩
  · exact .inl ⟨s, hstays hidle hend⟩
  · obtain ⟨hnext, hfault⟩ := hgoes hr
    rcases cpuStep_total s with ⟨t, ht⟩ | ⟨rec, hf, hrest⟩ | ⟨rec, hf, hrest⟩
    · obtain ⟨-, -, hstep⟩ := hnext t ht
      exact .inl ⟨_, hstep⟩
    · exact .inr (.inl ⟨rec, hfault _ hf, hrest⟩)
    · exact .inr (.inr ⟨rec, hfault _ hf, hrest⟩)

end Sys2Proof

/-! PROOF. The host and the environment (R504, R518, R540, R545, R560 to R563): what each action writes (O52), that no step
and no action but PowerOn touches the record of a fault (O50), and the state after reset (O8, O54). -/

namespace Sys2Proof

open Sys2Proof.Machine

/-! ## What each action writes (R562) -/

/-- The parts that an action may write. -/
def Machine.HostAction.parts : HostAction → List Part
  | .mount _ _ => [.romBanks, .cart, .memory]
  | .attachDisplay _ => [.displayBuffer]
  | .attachCallback _ => [.callback]
  | .powerOn _ => [.reg .a, .reg .b, .reg .c, .reg .d, .reg .e, .reg .h, .reg .l, .f, .shadow, .ix, .iy, .sp, .pc, .iReg,
    .rReg, .iff1, .iff2, .im, .halted, .eiShadow, .nmiPending, .cycles, .marks, .memory, .slots, .powered, .fault, .diag,
    .frameAcc]
  | .powerOff => [.powered]
  | .setIntLine _ => [.intLine]
  | .setBusByte _ => [.busByte]
  | .requestNmi => [.nmiPending]
  | .lineUpIoAnswer _ => [.ioAnswers]
  | .lineUpCallback _ => [.callbackOff]
  | .lineUpPowerOff _ => [.asyncOff]

theorem mount_unchangedBut (s : State) (size : Nat) (data : List Host.Cell) :
    UnchangedBut [.romBanks, .cart, .memory] s (s.mount size data) := by
  by_cases hbad : size = 0 ∨ size % 16384 ≠ 0
  · rw [mount_of_bad hbad]
    exact fun p _ => (Confined.refl [] [] [] s).parts p List.not_mem_nil
  · obtain ⟨-, hgood⟩ := mountTable s size data
    obtain ⟨-, -, -, -, hframe⟩ := hgood (size / 16384) (by omega) (by omega)
    exact hframe

/-- Every action writes its own part of the state and nothing else: another part is that of the state before by definition. -/
theorem act_unchangedBut {s t : State} {a : HostAction} (h : s.act a = .next t) : UnchangedBut a.parts s t := by
  intro p hp
  cases a with
  | mount size data =>
    obtain rfl := eq_of_whileIdle h
    exact mount_unchangedBut s size data p hp
  | powerOn drawn =>
    obtain rfl := eq_of_whileIdle h
    obtain ⟨-, -, -, -, -, -, -, -, -, -, -, -, -, -, -, -, -, -, -, -, -, -, -, -, hframe⟩ := powerOnState s drawn
    exact hframe p hp
  | attachDisplay | attachCallback =>
    obtain rfl := eq_of_whileIdle h
    cases p with
    | displayBuffer | callback => simp_all [HostAction.parts, Part.same]
    | memory => exact same_memory rfl rfl rfl rfl
    | _ => rfl
  | powerOff | setIntLine | setBusByte | requestNmi | lineUpIoAnswer | lineUpCallback | lineUpPowerOff =>
    obtain rfl := Host.Outcome.next.inj h
    cases p with
    | powered | intLine | busByte | nmiPending | ioAnswers | callbackOff | asyncOff =>
      simp_all [HostAction.parts, Part.same, State.powerOff, State.setIntLine, State.setBusByte, State.requestNmi,
        State.lineUpIoAnswer, State.lineUpCallback, State.lineUpPowerOff]
    | memory => exact same_memory rfl rfl rfl rfl
    | _ => rfl

/-! ## What a step never sets (R518, R545) -/

/-- A boundary may clear the power flag and never sets it (R545, R551). -/
theorem frameLoop_powered {frameCycles : Nat} {callback : Option Nat} {fuel : Nat} {v : FrameView}
    (h : (frameLoop frameCycles callback fuel v).powered = true) : v.powered = true := by
  induction fuel generalizing v with
  | zero => exact h
  | succ fuel ih =>
    by_cases hb : v.acc < frameCycles
    · rwa [frameLoop_below _ _ _ _ hb] at h
    · have hboundary : (v.boundary frameCycles callback).powered = true := by
        cases hp : (v.boundary frameCycles callback).powered with
        | true => rfl
        | false =>
          rw [frameLoop_off _ _ _ _ (by omega) hp] at h
          exact hp.symm.trans h
      obtain ⟨-, -, -, hpowered, -⟩ := boundary_all frameCycles callback v
      rw [hpowered, Bool.and_eq_true, Bool.and_eq_true] at hboundary
      exact hboundary.1.1

theorem cpuStep_powered {s t : State} (h : cpuStep s = .next t) : t.powered = s.powered := by
  rcases cpuStep_same h (p := .powered) (by decide) with hs | ⟨d, -, hw⟩
  · exact hs
  · cases hw

/-- A step clears the power flag at most. -/
theorem step_powered {s t : State} (h : step s = .next t) (ht : t.powered = true) : s.powered = true := by
  rcases step_next_cases h with rfl | ⟨-, u, n, hu, rfl⟩
  · exact ht
  · exact (cpuStep_powered hu).symm.trans (frameLoop_powered (v := (u.tick n).frameView) ht)

/-- After a CPU step no NMI is pending: it was accepted, or there was none (R515, R517). -/
theorem cpuStep_nmiPending {s t : State} (h : cpuStep s = .next t) : t.nmiPending = false := by
  rcases cpuStep_next_cases h with ⟨-, rfl⟩ | ⟨hn, -, vector, n, rfl⟩ | ⟨hn, -, -, rfl⟩ | ⟨hn, -, -, d, -, he⟩
  · rfl
  · exact hn
  · exact hn
  · have hkept : t.nmiPending = (s.endShadow.fetched d).nmiPending := exec_same he (p := .nmiPending) (by decide) rfl
    exact hkept.trans hn

/-- A step that leaves an NMI pending did nothing. -/
theorem step_nmiPending {s t : State} (h : step s = .next t) (ht : t.nmiPending = true) : t = s := by
  rcases step_next_cases h with rfl | ⟨-, u, n, hu, rfl⟩
  · rfl
  · cases (cpuStep_nmiPending hu).symm.trans ht

theorem whileIdle_of_idle {s : State} (h : s.runState = .idle) (action : IdleAction) (t : State) :
    s.whileIdle action t = .next t := by
  rw [State.whileIdle, h]

theorem whileIdle_of_running {s : State} (h : s.runState = .running) (action : IdleAction) (t : State) :
    s.whileIdle action t = .refused (.hostActionWhileRunning action) := by
  rw [State.whileIdle, h]

/-- Settles O52: each action by what it writes, and what needs Run to be idle by whether it is. -/
theorem hostActions : Obligations.HostActions := by
  intro s
  have acts : ∀ {a t}, s.act a = .next t → UnchangedBut a.parts s t := act_unchangedBut
  refine ⟨⟨rfl, rfl, acts (a := .powerOff) rfl⟩, fun t => step_powered,
    fun v => ⟨_, rfl, rfl, acts (a := .setIntLine v) rfl⟩, ⟨_, rfl, rfl, acts (a := .requestNmi) rfl, rfl⟩,
    fun t => step_nmiPending, fun b => ⟨_, rfl, rfl, acts (a := .setBusByte b) rfl⟩,
    fun v => ⟨_, rfl, rfl, acts (a := .lineUpIoAnswer v) rfl⟩,
    fun off => ⟨_, rfl, rfl, acts (a := .lineUpCallback off) rfl⟩,
    fun off => ⟨_, rfl, rfl, acts (a := .lineUpPowerOff off) rfl⟩, fun hidle size data drawn h => ?idle,
    fun hrun size data drawn h => ?running⟩
  case idle =>
    have goes := whileIdle_of_idle hidle
    exact ⟨goes _ _, goes _ _, ⟨_, goes _ _, rfl, acts (a := .attachCallback h) (goes _ _)⟩,
      _, goes _ _, rfl, acts (a := .attachDisplay h) (goes _ _)⟩
  case running =>
    have refused := whileIdle_of_running hrun
    refine ⟨refused _ _, refused _ _, refused _ _, refused _ _, fun setting fuel => ?_⟩
    rw [run, hrun]

/-! ## The record of a fault (R504) -/

/-- A turn of Run under either setting that goes on is the machine's step. -/
theorem step_of_stepUnder {setting : UnwrittenRead} {s t : State} (h : stepUnder setting s = .machine (.next t)) :
    step s = .next t := by
  unfold stepUnder at h
  rcases runIteration_cases setting Config.frameCycles s with ⟨hidle, hend, hi⟩ | ⟨-, hi⟩
  · have hts := ModelOutcome.machine.inj (h.symm.trans hi)
    rw [hts]
    exact turn_of_returnsAtOnce hidle hend _
  · exact eq_of_under_machine (hi.symm.trans h)

/-- The accessor looks at the record and its text only. -/
theorem diagnostic_congr {s t : State} (hf : t.fault = s.fault) (hd : t.diag = s.diag) : t.diagnostic = s.diagnostic := by
  rw [State.diagnostic, State.diagnostic, hf, hd]

/-- Only PowerOn writes the record and its text (R504). -/
theorem record_notMem_parts {a : HostAction} (ha : ∀ drawn, a ≠ .powerOn drawn) :
    Part.fault ∉ a.parts ∧ Part.diag ∉ a.parts := by
  cases a with
  | powerOn drawn => exact absurd rfl (ha drawn)
  | _ => simp [HostAction.parts]

/-- Settles O50: Run returns at its entry, and neither a step nor an action but PowerOn writes the record. -/
theorem faultIsSticky : Obligations.FaultIsSticky := by
  intro s
  refine ⟨fun hidle hend setting => ⟨?entry, fun fuel => ?run⟩, fun setting t h => ?step, fun a t h ha => ?act,
    fun _ => rfl⟩
  case entry =>
    have hreturns := (runReturnsAtOnce_iff s).2 hend.symm
    rw [stepUnder, runIteration, if_pos ⟨hidle, hreturns⟩, turn_of_returnsAtOnce hidle hend.symm]
  case run =>
    rw [run, hidle]
    exact if_pos ((runReturnsAtOnce_iff s).2 hend.symm)
  case step =>
    obtain ⟨-, -, -, -, -, -, hfault, -⟩ := stepLeaves s t (step_of_stepUnder h)
    exact hfault
  case act =>
    have hframe := act_unchangedBut h
    obtain ⟨hf, hd⟩ := record_notMem_parts ha
    exact ⟨hframe .fault hf, diagnostic_congr (hframe .fault hf) (hframe .diag hd)⟩

/-! ## The state after reset (R602, R603) -/

/-- An unset entry of the table shows open bus (R82). -/
theorem romByte_of_unset {s : State} {k : Nat} (h : ∀ b, s.romBanks[k]? ≠ some (some b)) (a : Word) :
    romByte s k a = 0xFF := by
  unfold romByte
  split
  · next b hb => exact absurd hb (h b)
  · rfl

/-- No bank is mounted at reset (R603). -/
theorem romByte_reset (k : Nat) (a : Word) : romByte State.reset k a = 0xFF :=
  romByte_of_unset (fun b hb => by
    obtain ⟨hlt, hentry⟩ := Vector.getElem?_eq_some_iff.1 hb
    simp [State.reset] at hentry) a

/-- Settles O8: no bank is mounted and no byte of RAM is listed. -/
theorem resetState : Obligations.ResetState := by
  refine ⟨rfl, rfl, rfl, rfl, rfl, rfl, rfl, rfl, rfl, rfl, rfl, rfl, fun a => ?_⟩
  rw [addressDecode]
  simp only [romByte_reset]
  repeat' split
  all_goals rfl

/-- Settles O54: the state after reset is a PowerOn of the fresh session, which has the invariant. -/
theorem resetHasInvariant : Obligations.ResetHasInvariant := inv_session.powerOn .named

end Sys2Proof

/-! PROOF. The reads of registers that hold no value (R500, R601, R605; O59): when a turn of Run under `fault` is the model
fault, and what the first step of a console without a cartridge reads. -/

namespace Sys2Proof

open Sys2Proof.Machine

/-! ## The check before a turn (R601) -/

/-- What an instruction reads does not depend on whether Run is entered. -/
theorem reads_enterRun (i : Instr) (s : State) : i.reads s.enterRun = i.reads s := by
  cases i <;> rfl

theorem stepReads_enterRun (s : State) : s.enterRun.stepReads = s.stepReads := by
  unfold State.stepReads
  have hd : s.enterRun.decodeAtPc = s.decodeAtPc := rfl
  rw [hd]
  cases s.decodeAtPc with
  | ok d => simp only [reads_enterRun]; rfl
  | error e => rfl

/-- So the check is the same before Run is entered and after. -/
theorem under_enterRun (setting : UnwrittenRead) (s : State) (o : Host.Outcome State Fault Refusal) :
    s.enterRun.under setting o = s.under setting o := by
  have hcheck : s.enterRun.unwrittenRead setting = s.unwrittenRead setting := by
    cases setting with
    | draw => rfl
    | fault => exact congrArg s.marks.firstUnwritten (stepReads_enterRun s)
  rw [State.under, State.under, hcheck]

section

variable {s : State} {o : Host.Outcome State Fault Refusal}

theorem under_fault_of_written (h : ∀ l ∈ s.stepReads, l ∉ s.marks.unwritten) : s.under .fault o = .machine o := by
  rcases under_cases .fault s o with ⟨l, -, hr, hm, -⟩ | ⟨-, hu⟩
  · exact absurd hm (h l hr)
  · exact hu

/-- The register named is one that the turn reads, whatever the turn would come to. -/
theorem under_fault_of_unwritten (h : ∃ l ∈ s.stepReads, l ∈ s.marks.unwritten) :
    ∃ l ∈ s.stepReads, l ∈ s.marks.unwritten ∧ ∀ o, s.under .fault o = .unwrittenRead l := by
  rcases under_cases .fault s (.next s) with ⟨l, -, hr, hm, hu⟩ | ⟨hnone, -⟩
  · refine ⟨l, hr, hm, fun o => ?_⟩
    unfold State.under at hu ⊢
    cases hf : s.unwrittenRead .fault with
    | none => rw [hf] at hu; cases hu
    | some l' => rw [hf] at hu; exact hu
  · obtain ⟨l, hr, hm⟩ := h
    exact absurd hm (hnone.resolve_left nofun l hr)

end

/-! ## The first step without a cartridge (R605) -/

/-- With the boot bank unset the four bytes at PC are 0xFF after PowerOn, which is RST 38 (R82, R410). -/
theorem decodeAtPc_powerOn {s : State} (h : s.romBanks[0]? = some none) (drawn : DrawnRegisters) :
    (s.powerOn drawn).decodeAtPc = .ok ⟨.rst 7, 1, 1⟩ := by
  have hopen : ∀ a : Word, a.toNat < 0x0400 → (s.powerOn drawn).readByte a = 0xFF := fun a ha => by
    rw [addressDecode, if_pos ha]
    exact romByte_of_unset (fun b hb => by cases h.symm.trans hb) a
  have hpc : (s.powerOn drawn).pc = 0 := rfl
  rw [State.decodeAtPc, hpc, hopen 0 (by decide), hopen (0 + 1) (by decide), hopen (0 + 2) (by decide),
    hopen (0 + 3) (by decide)]
  rfl

/-- A restart pushes PC, so it reads SP. -/
theorem stepReads_powerOn {s : State} (h : s.romBanks[0]? = some none) (drawn : DrawnRegisters) :
    (s.powerOn drawn).stepReads = [.sp] := by
  have hint : (s.powerOn drawn).intCondition = false := (intCondition_eq_false _).2 (.inr (.inl rfl))
  exact stepReads_of_decode (decodeAtPc_powerOn h drawn) rfl hint rfl

/-- Settles O59: the check of R601 decides before the turn, and R605's first step is a restart. -/
theorem unwrittenReads : Obligations.UnwrittenReads := by
  intro frameCycles s
  refine ⟨runIteration_draw frameCycles s, runIteration_draw _ s,
    fun hr => ⟨fun hwritten => ?written, fun hread => ?read⟩, fun hunset drawn => ?powerOn,
    fun e l => List.mem_singleton, fun l => List.mem_singleton, fun l => ?daa, fun l => ?push, rfl, rfl, rfl⟩
  case written =>
    rcases runIteration_cases .fault frameCycles s with ⟨hidle, hend, hi⟩ | ⟨-, hi⟩
    · rw [hi, turn_of_returnsAtOnce hidle hend]
    · rw [hi, under_fault_of_written hwritten]
  case read =>
    obtain ⟨l, hl, hm, hunder⟩ := under_fault_of_unwritten hread
    have hloop : ∀ fuel, runLoop .fault frameCycles (fuel + 1) s.enterRun = .unwrittenRead l := fun fuel => by
      rw [runLoop, under_enterRun, hunder]
    refine ⟨l, hl, hm, ?_, fun fuel => ⟨fun hidle => ?_, fun hrun => ?_⟩⟩
    · rw [runIteration_eq hr, hunder]
    · rw [run_of_idle hr hidle, hloop]
    · rw [← hloop fuel, enterRun_of_running hrun]
  case powerOn =>
    have hreads := stepReads_powerOn hunset drawn
    obtain ⟨l, hl, -, hunder⟩ := under_fault_of_unwritten (s := s.powerOn drawn) ⟨.sp, by simp [hreads], mem_allLocs .sp⟩
    obtain rfl : l = .sp := by simpa [hreads] using hl
    rw [runIteration_eq (.inr ⟨rfl, rfl⟩), hunder]
  case daa => simp [Instr.reads]
  case push =>
    have hflag : (∃ k, l = .flag k) ↔ l ∈ flagLocs := by
      refine ⟨?_, fun hm => ?_⟩
      · rintro ⟨k, rfl⟩
        cases k <;> decide
      · cases l with
        | flag k => exact ⟨k, rfl⟩
        | _ => simp [flagLocs] at hm
    rw [hflag]
    exact List.mem_cons.trans (or_congr_right List.mem_cons)

end Sys2Proof

/-! PROOF. The frame boundaries (R542, R545, R550, R551; O48): what the frame loop crosses, and where it stops. -/

namespace Sys2Proof

open Sys2Proof.Machine

/-! ## Boundaries in the frame loop's view -/

/-- At the `j`-th boundary from `v` nothing clears the power flag: no asynchronous PowerOff is lined up, and the callback,
if one is attached, has a decision lined up against it (R545, R551). -/
def StaysOn (callback : Option Nat) (v : FrameView) (j : Nat) : Prop :=
  v.asyncOff[j]? ≠ some true ∧ (callback = none ∨ v.callbackOff[j]? = some false)

/-- At the `j`-th boundary from `v` the power flag is cleared. -/
def GoesOff (callback : Option Nat) (v : FrameView) (j : Nat) : Prop :=
  v.asyncOff[j]? = some true ∨ callback ≠ none ∧ v.callbackOff[j]? = some true

/-- From `v` to `w` the count has crossed `n` boundaries (R550, R551). -/
structure Crossed (frameCycles : Nat) (callback : Option Nat) (n : Nat) (v w : FrameView) : Prop where
  acc : w.acc = v.acc - n * frameCycles
  asyncOff : w.asyncOff = v.asyncOff.drop n
  attached : ∀ handle, callback = some handle →
    w.events = v.events ++ List.replicate n (.frame handle) ∧ w.callbackOff = v.callbackOff.drop n
  unattached : callback = none → w.events = v.events ∧ w.callbackOff = v.callbackOff ∧ w.draws = v.draws

section

variable {frameCycles : Nat} {callback : Option Nat} {n : Nat} {u v w : FrameView}

theorem Crossed.zero (v : FrameView) : Crossed frameCycles callback 0 v v where
  acc := by simp
  asyncOff := rfl
  attached := fun _ _ => ⟨(List.append_nil _).symm, rfl⟩
  unattached := fun _ => ⟨rfl, rfl, rfl⟩

/-- One more boundary is one more of everything. -/
theorem Crossed.boundary (h : Crossed frameCycles callback n u v) :
    Crossed frameCycles callback (n + 1) u (v.boundary frameCycles callback) := by
  obtain ⟨hacc, -, hasync, -, hnone, hsome⟩ := boundary_all frameCycles callback v
  refine ⟨?_, ?_, fun handle hc => ?_, fun hc => ?_⟩
  · rw [hacc, h.acc, Nat.sub_sub, Nat.succ_mul]
  · rw [hasync, h.asyncOff, List.tail_drop]
  · obtain ⟨hevents, hoff⟩ := hsome handle hc
    obtain ⟨hevents', hoff'⟩ := h.attached handle hc
    rw [hevents, hevents', hoff, hoff', List.tail_drop, List.replicate_succ', List.append_assoc]
    exact ⟨rfl, rfl⟩
  · obtain ⟨hevents, hoff, hdraws⟩ := hnone hc
    obtain ⟨hevents', hoff', hdraws'⟩ := h.unattached hc
    exact ⟨hevents.trans hevents', hoff.trans hoff', hdraws.trans hdraws'⟩

/-- The decisions at the next boundary are those that were lined up for it. -/
theorem Crossed.staysOn_iff (h : Crossed frameCycles callback n v w) :
    StaysOn callback w 0 ↔ StaysOn callback v n := by
  unfold StaysOn
  rw [h.asyncOff, List.getElem?_drop, Nat.add_zero]
  cases callback with
  | none => simp
  | some handle => rw [(h.attached handle rfl).2, List.getElem?_drop, Nat.add_zero]

theorem Crossed.goesOff_iff (h : Crossed frameCycles callback n v w) : GoesOff callback w 0 ↔ GoesOff callback v n := by
  unfold GoesOff
  rw [h.asyncOff, List.getElem?_drop, Nat.add_zero]
  cases callback with
  | none => simp
  | some handle => rw [(h.attached handle rfl).2, List.getElem?_drop, Nat.add_zero]

/-- The power flag stays set at a boundary where nothing clears it. -/
theorem boundary_powered_of_staysOn (hp : v.powered = true) (h : StaysOn callback v 0) :
    (v.boundary frameCycles callback).powered = true := by
  obtain ⟨-, -, -, hpowered, -⟩ := boundary_all frameCycles callback v
  obtain ⟨hasync, hcall⟩ := h
  rw [← List.head?_eq_getElem?] at hasync hcall
  have hland : v.asyncOff.head?.getD false = false := by
    cases hd : v.asyncOff.head? with
    | none => rfl
    | some b => simpa [hd] using hasync
  have hcalls : (callback.isSome && v.callsPowerOff) = false := by
    rcases hcall with rfl | hf
    · rfl
    · simp [FrameView.callsPowerOff, hf]
  rw [hpowered, hp, hcalls, hland]
  rfl

/-- It is clear after a boundary where something clears it, or where it was clear already (R545). -/
theorem boundary_powered_of_goesOff (h : v.powered = false ∨ GoesOff callback v 0) :
    (v.boundary frameCycles callback).powered = false := by
  obtain ⟨-, -, -, hpowered, -⟩ := boundary_all frameCycles callback v
  rw [hpowered]
  rcases h with hp | hasync | ⟨hc, hoff⟩
  · simp [hp]
  · rw [← List.head?_eq_getElem?] at hasync
    simp [hasync]
  · rw [← List.head?_eq_getElem?] at hoff
    simp [FrameView.callsPowerOff, hoff, Option.isSome_iff_ne_none.2 hc]

/-- While nothing clears the power flag, the loop goes on over the boundaries that the count holds. -/
theorem frameLoop_skip (hpos : 0 < frameCycles) (hp : v.powered = true) {k fuel : Nat}
    (hon : ∀ j, j < k → StaysOn callback v j) (hk : k * frameCycles ≤ v.acc) (hf : v.acc ≤ fuel) :
    ∃ rest w, frameLoop frameCycles callback fuel v = frameLoop frameCycles callback rest w ∧ w.acc ≤ rest ∧
      Crossed frameCycles callback k v w ∧ w.powered = true ∧ w.stopped = v.stopped := by
  induction k with
  | zero => exact ⟨fuel, v, rfl, hf, .zero v, hp, rfl⟩
  | succ k ih =>
    rw [Nat.succ_mul] at hk
    obtain ⟨rest, w, hloop, hrest, hcrossed, hwp, hstopped⟩ := ih (fun j hj => hon j (by omega)) (by omega)
    have hacc := hcrossed.acc
    have hnext := boundary_powered_of_staysOn (frameCycles := frameCycles) hwp
      (hcrossed.staysOn_iff.2 (hon k (Nat.lt_succ_self k)))
    obtain ⟨fuel', rfl⟩ : ∃ fuel', rest = fuel' + 1 := ⟨rest - 1, by omega⟩
    obtain ⟨hbacc, hbstopped, -⟩ := boundary_all frameCycles callback w
    rw [frameLoop_on _ _ _ _ (by omega) hnext] at hloop
    exact ⟨fuel', _, hloop, by omega, hcrossed.boundary, hnext, hbstopped.trans hstopped⟩

/-- The loop crosses all the boundaries of the count while nothing clears the power flag (R550). -/
theorem frameLoop_all (hpos : 0 < frameCycles) (hp : v.powered = true) {fuel : Nat}
    (hon : ∀ j, j < v.acc / frameCycles → StaysOn callback v j) (hf : v.acc ≤ fuel) :
    let w := frameLoop frameCycles callback fuel v
    Crossed frameCycles callback (v.acc / frameCycles) v w ∧ w.acc < frameCycles ∧ w.powered = true ∧
      w.stopped = v.stopped := by
  obtain ⟨rest, w, hloop, -, hcrossed, hwp, hstopped⟩ := frameLoop_skip hpos hp hon (Nat.div_mul_le_self _ _) hf
  have hbelow : w.acc < frameCycles := by
    rw [hcrossed.acc, Nat.mul_comm, ← Nat.mod_eq_sub_mul_div]
    exact Nat.mod_lt _ hpos
  rw [hloop, frameLoop_below _ _ _ _ hbelow]
  exact ⟨hcrossed, hbelow, hwp, hstopped⟩

/-- The loop stops at the boundary that finds the power flag clear (R542, R545). -/
theorem frameLoop_stops (hpos : 0 < frameCycles) {k fuel : Nat}
    (hoff : k = 0 ∧ v.powered = false ∨
      v.powered = true ∧ (∀ j, j < k → StaysOn callback v j) ∧ GoesOff callback v k)
    (hk : (k + 1) * frameCycles ≤ v.acc) (hf : v.acc ≤ fuel) :
    let w := frameLoop frameCycles callback fuel v
    Crossed frameCycles callback (k + 1) v w ∧ w.powered = false ∧ w.stopped = true := by
  rw [Nat.succ_mul] at hk
  obtain ⟨rest, w, hloop, hrest, hcrossed, hclears⟩ : ∃ rest w,
      frameLoop frameCycles callback fuel v = frameLoop frameCycles callback rest w ∧ w.acc ≤ rest ∧
      Crossed frameCycles callback k v w ∧ (w.powered = false ∨ GoesOff callback w 0) := by
    rcases hoff with ⟨rfl, hp⟩ | ⟨hp, hon, hgoes⟩
    · exact ⟨fuel, v, rfl, hf, .zero v, .inl hp⟩
    · obtain ⟨rest, w, hloop, hrest, hcrossed, -⟩ := frameLoop_skip hpos hp hon (by omega) hf
      exact ⟨rest, w, hloop, hrest, hcrossed, .inr (hcrossed.goesOff_iff.2 hgoes)⟩
  have hacc := hcrossed.acc
  have hnext := boundary_powered_of_goesOff (frameCycles := frameCycles) hclears
  obtain ⟨fuel', rfl⟩ : ∃ fuel', rest = fuel' + 1 := ⟨rest - 1, by omega⟩
  obtain ⟨hbacc, hbasync, hbattached, hbnone⟩ := hcrossed.boundary
  rw [hloop, frameLoop_off _ _ _ _ (by omega) hnext]
  exact ⟨⟨hbacc, hbasync, hbattached, hbnone⟩, hnext, rfl⟩

end

/-! ## Boundaries in the state -/

/-- What the frame loop reads and writes, its results put back, is all that a state changes at its boundaries. -/
theorem withFrameView_unchangedBut (s : State) (v : FrameView) :
    UnchangedBut [.powered, .runState, .frameAcc, .events, .callbackOff, .asyncOff, .draws] s (s.withFrameView v) := by
  intro p hp
  cases p with
  | powered | runState | frameAcc | events | callbackOff | asyncOff | draws => simp at hp
  | memory => exact same_memory rfl rfl rfl rfl
  | _ => rfl

/-- Below FRAME_CYCLES no boundary is reached. -/
theorem crossFrames_below {frameCycles : Nat} {s : State} (h : s.frameAcc < frameCycles) :
    s.crossFrames frameCycles = s := by
  rw [State.crossFrames, frameLoop_below frameCycles s.callback s.frameAcc s.frameView h]
  rfl

/-- Settles O48: the frame loop in the state's view, with its results put back. -/
theorem frameBoundaries : Obligations.FrameBoundaries := by
  intro frameCycles k s hpos t staysOn crossed touched
  have hframe := withFrameView_unchangedBut s (frameLoop frameCycles s.callback s.frameAcc s.frameView)
  refine ⟨crossFrames_below, fun hk hp hon => ?all, fun hk hoff => ?stops⟩
  case all =>
    subst hk
    obtain ⟨⟨hacc, hasync, hattached, hnone⟩, hbelow, hpowered, hstopped⟩ :=
      frameLoop_all (v := s.frameView) (callback := s.callback) hpos hp hon (Nat.le_refl _)
    refine ⟨⟨hacc, hasync, hattached, hnone⟩, hbelow, fun p hm => ?_⟩
    cases p with
    | powered => exact hpowered.trans hp.symm
    | runState => exact if_neg (Bool.eq_false_iff.1 hstopped)
    | _ => exact hframe _ (List.not_mem_cons_of_ne_of_not_mem nofun (List.not_mem_cons_of_ne_of_not_mem nofun hm))
  case stops =>
    obtain ⟨⟨hacc, hasync, hattached, hnone⟩, hpowered, hstopped⟩ :=
      frameLoop_stops (v := s.frameView) (callback := s.callback) hpos hoff hk (Nat.le_refl _)
    exact ⟨⟨hacc, hasync, hattached, hnone⟩, hpowered, if_pos hstopped, hframe⟩

end Sys2Proof

/-! PROOF. How soon Run returns once the power flag is clear (R543; O49), and the diagnostic text (R503; O51). -/

namespace Sys2Proof

open Sys2Proof.Machine

/-! ## Once the power flag is clear (R543) -/

theorem cpuStep_frameAcc {s t : State} (h : cpuStep s = .next t) : t.frameAcc = s.frameAcc := by
  rcases cpuStep_same h (p := .frameAcc) (by decide) with hs | ⟨d, -, hw⟩
  · exact hs
  · cases hw

/-- The first boundary reached with the power flag clear ends the run (R542). -/
theorem crossFrames_off {frameCycles : Nat} (hpos : 0 < frameCycles) {s : State} (hp : s.powered = false)
    (hacc : frameCycles ≤ s.frameAcc) :
    (s.crossFrames frameCycles).runState = .idle ∧ (s.crossFrames frameCycles).cycles = s.cycles := by
  obtain ⟨-, -, hstops⟩ := frameBoundaries frameCycles 0 s hpos
  obtain ⟨-, -, hidle, hframe⟩ := hstops (by omega) (.inl ⟨rfl, hp⟩)
  exact ⟨hidle, hframe .cycles (by simp)⟩

/-- From `s` to `t` a turn has spent from 4 to 23 T-states, and these reach a boundary and end the run, or count towards
it. -/
def CountsDown (frameCycles : Nat) (s t : State) : Prop :=
  ∃ n, 4 ≤ n ∧ n ≤ 23 ∧ t.cycles = s.cycles + n ∧
    (t.runState = .idle ∨
      t.runState = .running ∧ t.powered = false ∧ t.frameAcc = s.frameAcc + n ∧ t.frameAcc < frameCycles)

/-- With the power flag clear, what follows a CPU step that goes on counts down. -/
theorem countsDown_of_cpuStep {frameCycles : Nat} (hpos : 0 < frameCycles) {s u : State} (hp : s.powered = false)
    (hu : cpuStep s = .next u) (m : Marks) :
    CountsDown frameCycles s (((u.relabel .running m).tick (u.cycles - s.cycles)).crossFrames frameCycles) := by
  obtain ⟨hlow, hhigh⟩ := cpuStep_cycles hu
  generalize hn : u.cycles - s.cycles = n
  have hspent : u.cycles = s.cycles + n := by omega
  have hkept : u.frameAcc = s.frameAcc := cpuStep_frameAcc hu
  have hcount : ((u.relabel .running m).tick n).frameAcc = s.frameAcc + n := congrArg (· + n) hkept
  have hoff : ((u.relabel .running m).tick n).powered = false := (cpuStep_powered hu).trans hp
  refine ⟨n, by omega, by omega, ?_⟩
  rcases Nat.lt_or_ge ((u.relabel .running m).tick n).frameAcc frameCycles with hb | hb
  · rw [crossFrames_below hb]
    exact ⟨hspent, .inr ⟨rfl, hoff, hcount, hb⟩⟩
  · obtain ⟨hidle, hcycles⟩ := crossFrames_off hpos hoff hb
    exact ⟨hcycles.trans hspent, .inl hidle⟩

/-- A turn of a Run that goes on with the power flag clear faults or counts down. -/
theorem loopBody_off {frameCycles : Nat} (hpos : 0 < frameCycles) {s : State} (hr : s.runState = .running)
    (hp : s.powered = false) :
    (∃ cause rec, s.loopBody frameCycles = .fault (.unsupportedOpcode cause rec)) ∨
      ∃ t, s.loopBody frameCycles = .next t ∧ CountsDown frameCycles s t := by
  obtain ⟨hnext, hfault⟩ := loopBody_enterRun frameCycles s
  rw [enterRun_of_running hr] at hnext hfault
  rcases cpuStep_total s with ⟨u, hu⟩ | ⟨rec, hf, -⟩ | ⟨rec, hf, -⟩
  · exact .inr ⟨_, hnext u hu, countsDown_of_cpuStep hpos hp hu s.stepMarks⟩
  · exact .inl ⟨_, rec, hfault _ hf⟩
  · exact .inl ⟨_, rec, hfault _ hf⟩

/-- Every turn counts at least one T-state towards the boundary at which Run returns. -/
theorem runLoop_off {frameCycles : Nat} (hpos : 0 < frameCycles) (fuel : Nat) (s : State) (hr : s.runState = .running)
    (hp : s.powered = false) (hacc : s.frameAcc < frameCycles) (hfuel : frameCycles ≤ fuel + s.frameAcc) :
    ∃ t, runLoop .draw frameCycles fuel s = .returned t ∧ t.runState = .idle ∧
      t.cycles + s.frameAcc ≤ s.cycles + (frameCycles - 1 + 23) := by
  induction fuel generalizing s with
  | zero => omega
  | succ fuel ih =>
    have hdraw : ∀ o, s.under .draw o = .machine o := fun _ => rfl
    rcases loopBody_off hpos hr hp with
      ⟨cause, rec, hf⟩ | ⟨t, ht, n, hlow, hhigh, hcycles, hidle | ⟨hrun, hoff, hcount, hb⟩⟩
    · obtain ⟨-, -, hidle⟩ := recordFault_record s cause rec
      have hsame : (s.recordFault cause rec).cycles = s.cycles :=
        recordFault_unchangedBut s cause rec .cycles (by cases cause <;> decide)
      exact ⟨_, by rw [runLoop, hdraw, hf], hidle, by omega⟩
    · refine ⟨t, ?_, hidle, by omega⟩
      rw [runLoop, hdraw, ht]
      simp only [hidle]
    · obtain ⟨u, hu, hidle, hspent⟩ := ih t hrun hoff hb (by omega)
      refine ⟨u, ?_, hidle, by omega⟩
      rw [runLoop, hdraw, ht]
      simp only [hrun, hu]

/-- Settles O49: with the count below FRAME_CYCLES the turns and the T-states left to the next boundary are bounded. -/
theorem powerOffLatency : Obligations.PowerOffLatency := by
  intro frameCycles s hpos hr hp hacc
  obtain ⟨t, ht, hidle, hspent⟩ := runLoop_off hpos frameCycles s hr hp hacc (Nat.le_add_right _ _)
  exact ⟨t, ht, hidle, by omega⟩

/-! ## The diagnostic text (R503) -/

/-- The character of a hexadecimal digit, as R503 is read. -/
def digitChar (k : Nat) : Byte := BitVec.ofNat 8 (if k < 10 then 0x30 + k else 0x41 + (k - 10))

/-- A byte as its two digits, the high nibble first. -/
def twoDigits (v : Nat) : List Byte := [digitChar (v / 16), digitChar (v % 16)]

theorem hexByte_eq (v : Byte) : hexByte v = twoDigits v.toNat := by
  revert v
  decide

theorem hexWord_eq (w : Word) : hexWord w = twoDigits (w.toNat / 256) ++ twoDigits (w.toNat % 256) := by
  rw [hexWord, hexByte_eq, hexByte_eq, toNat_hi8, toNat_lo8]

theorem digits_eq (rec : FaultRecord) :
    rec.digits = twoDigits (rec.pc.toNat / 256) ++ twoDigits (rec.pc.toNat % 256) ++
      (rec.opcode.map fun b => twoDigits b.toNat).flatten := by
  rw [FaultRecord.digits, hexWord_eq, funext hexByte_eq]

/-- The wording leaves room for the digits of up to four bytes. -/
theorem text_length_le {rec : FaultRecord} (h : rec.opcode.length ≤ 4) : rec.text.length ≤ Config.diagLen - 1 := by
  have hdigits := digits_length rec
  have hroom : Config.diagLen = Config.diagSpare + 13 := rfl
  rw [FaultRecord.text, List.length_append, List.length_take]
  omega

theorem recordFault_diagnostic (s : State) (cause : FaultCause) (rec : FaultRecord) :
    (s.recordFault cause rec).diagnostic = some (rec.text ++ [0]) := by
  cases cause <;> rfl

/-- Settles O51: the text ends in the record's digits, after as much wording as there is room for. -/
theorem diagnosticText : Obligations.DiagnosticText := by
  intro s cause rec digit two digits
  refine ⟨fun hnone => ?_, fun hlen => ⟨rec.text, recordFault_diagnostic s cause rec, zero_notMem_text rec,
    text_length_le hlen, ?_⟩⟩
  · rw [State.diagnostic, hnone]
  · have hdigits : digits = rec.digits := (digits_eq rec).symm
    rw [hdigits]
    exact (List.suffix_append _ _).isInfix

end Sys2Proof
